-- ==== Sys2Proof/Word.lean ====
section
/-! DEFINITION. The word types of the block (00_scope R16, R17). -/

namespace Sys2Proof

/-- A byte of an input buffer (R17). -/
abbrev Byte := BitVec 8

/-- A binary64 value by its IEEE 754 bit pattern (R16, R20). -/
abbrev F64 := BitVec 64

/-- A binary32 value by its IEEE 754 bit pattern (R16, R20). -/
abbrev F32 := BitVec 32

/-- A decoded pitch, length, volume or pan: 0..254, since 0xFF is the inherit sentinel and no
decoded field equals 255 (R189). DEDUCED, log 9. -/
abbrev Level := Fin 255

end Sys2Proof
end

