-- ==== Sys2Proof/Config.lean ====
section
/-! DEFINITION. The configuration registers of 10_state R32, and the free values of the model. -/

namespace Sys2Proof

/-- PAN_LAW (R3). -/
inductive PanLaw where
  | unity
  | constantPower
deriving DecidableEq, Repr

/-- PERC_MODE (R3). -/
inductive PercMode where
  | silent
  | stream
deriving DecidableEq, Repr

/-- One accepted header magic: the bits under `mask` must equal those of `value`. Byte 0 of the
header is the most significant byte. -/
structure MagicPattern where
  mask  : BitVec 48
  value : BitVec 48
deriving DecidableEq, Repr

/-- The configuration registers (R32). MAGIC_OK is held as the list of the patterns it accepts:
every predicate on 6 bytes is such a list (DEDUCED, log 7). VOL_GAIN, PAN_L and PAN_R have one
legal value each and are constants (`Machine/Gains.lean`, log 10). -/
structure Cfg where
  sampleRate : Nat
  freqTable  : Vector F64 12
  octRepeat  : Vector F64 8
  octAdvance : Vector F64 8
  magic      : List MagicPattern
  numDrums   : Nat
  panLaw     : PanLaw
  percMode   : PercMode
deriving DecidableEq, Repr

/-- The configuration at power-on, where R50 gives "no value". DESIGN CHOICE, log 3: the values
R3 and R10 name for this hardware, else zero, and 1.0 where R12 forbids zero. -/
def Cfg.powerOn : Cfg where
  sampleRate := 44100
  freqTable  := Vector.replicate 12 0x0000000000000000#64
  octRepeat  := Vector.replicate 8 0x3ff0000000000000#64
  octAdvance := Vector.replicate 8 0x0000000000000000#64
  magic      := []
  numDrums   := 0
  panLaw     := .constantPower
  percMode   := .stream

/-- The binary64 operations of R20 that can produce a NaN. -/
inductive FloatOp where
  | add
  | mul
  | div
deriving DecidableEq, Repr

/-- FREE VALUE (log 6): sign bit and 51 payload bits of the NaN that a binary64 operation gives for
these operands. R20 says IEEE 754, which leaves them open. -/
opaque Config.nanBits64 : FloatOp → F64 → F64 → BitVec 52

/-- FREE VALUE (log 6): sign bit and 22 payload bits of the NaN that RN32 gives for a NaN. -/
opaque Config.nanBits32 : F64 → BitVec 23

/-- FREE VALUE (log 11): what OCT_REPEAT reads as past its 8 entries. R83 excludes the read. -/
opaque Config.octRepeatBeyond : Nat → F64

/-- FREE VALUE (log 11): what OCT_ADVANCE reads as past its 8 entries. R83 excludes the read. -/
opaque Config.octAdvanceBeyond : Nat → F64

/-- FREE VALUE (log 11): what the bank reads as past its 100 entries, at a table index. R83
excludes the read. -/
opaque Config.waveBeyond : Nat → Fin 256 → F64

/-- FREE VALUE (log 11): the sequence read past the NUM_DRUMS entries of the drum bank. R83
excludes the read. -/
opaque Config.drumBeyond : Nat → List F64

end Sys2Proof
end

