-- ==== Sys2Proof/Syntax.lean ====
section
/-! DEFINITION. The operations of the block: one constructor per row of spec/opcode_table.json
(00_scope R4, 30_encoding R123), and how an operation is requested. -/

namespace Sys2Proof

/-- The fields of a SONG_HEADER record (R112). Byte 0 of the magic is its most significant byte. -/
structure SongHeaderRec where
  magic     : BitVec 48
  waitMs    : Byte
  timeSig0  : Byte
  timeSig1  : Byte
  startBeat : BitVec 32
  endBeat   : BitVec 32
deriving DecidableEq, Repr

/-- The fields of an INSTRUMENT_HEADER record (R113). -/
structure InstrumentRec where
  voiceId         : BitVec 16
  instrumentIndex : Byte
  shortNoteByte   : Byte
  noteCount       : BitVec 16
deriving DecidableEq, Repr

/-- The raw fields of a NOTE record (R114). -/
structure NoteRec where
  beat   : BitVec 32
  pitch  : Byte
  length : Byte
  volume : Byte
  pan    : Byte
deriving DecidableEq, Repr

/-- The operations of R4. -/
inductive Instr where
  /-- SONG_HEADER (R171). -/
  | songHeader (h : SongHeaderRec)
  /-- INSTRUMENT_HEADER of instrument `i` (R176). -/
  | instrumentHeader (i : Fin 16) (h : InstrumentRec)
  /-- NOTE of instrument `i` (R178). -/
  | note (i : Fin 16) (r : NoteRec)
  /-- WAVE_ENTRY `w` (R220). -/
  | waveEntry (w : Fin 100) (samples : Vector Byte 256)
  /-- DRUM_SAMPLE (R222). -/
  | drumSample (sample : BitVec 16)
  /-- READ_U8 (R152). -/
  | readU8
  /-- READ_U16LE (R153). -/
  | readU16le
  /-- READ_U32LE (R154). -/
  | readU32le
  /-- READ_S8 (R155). -/
  | readS8
  /-- READ_S16BE (R156). -/
  | readS16be
  /-- SKIP (R157). -/
  | skip (n : Nat)
  /-- READ_WAVEFORM (R158). -/
  | readWaveform
  /-- CONSTRUCT (R240). -/
  | construct (cfg : Cfg) (songIn waveIn : List Byte) (drumIn : List (List Byte))
  /-- PRODUCE (R242). -/
  | produce (n : BitVec 32)
  /-- STEP (R243). -/
  | step
  /-- MELODIC_VOICE of channel `c` (R246). -/
  | melodicVoice (c : Fin 16)
  /-- PERC_VOICE_STREAM of channel `c` (R256). -/
  | percVoiceStream (c : Fin 16)
  /-- PERC_VOICE_SILENT of channel `c` (R257). -/
  | percVoiceSilent (c : Fin 16)
  /-- MIX_CLAMP (R258). -/
  | mixClamp
deriving DecidableEq, Repr

/-- Which record stands at the cursor. The byte offset selects it, no byte value does
(R119, R123). -/
inductive RecordSel where
  | songHeader
  | instrumentHeader (i : Fin 16)
  | note (i : Fin 16)
  | waveEntry (w : Fin 100)
  | drumSample
deriving DecidableEq, Repr

/-- An operation requested of the block: a typed call, which has no bit encoding (R123, D29), or
the record that stands at the reader's cursor, which the block decodes from its bytes. -/
inductive Request where
  | call (i : Instr)
  | record (sel : RecordSel)
deriving DecidableEq, Repr

end Sys2Proof
end

