-- ==== Sys2Proof/WellFormed.lean ====
section
/-! DEFINITION. Which terms of `Instr` name an operation of the block. -/

namespace Sys2Proof

/-- `kind(c) = MELODIC` for c in 0..7, PERCUSSION for c in 8..15 (R9, R46). -/
def isMelodic (c : Fin 16) : Bool := decide (c.val < 8)

/-- A voice operation stands for a channel of its own kind (R246, R256, R257). Every other
operand is legal at every value of its type (R120). -/
def Instr.wellFormed : Instr → Bool
  | .melodicVoice c => isMelodic c
  | .percVoiceStream c => !isMelodic c
  | .percVoiceSilent c => !isMelodic c
  | .songHeader _ => true
  | .instrumentHeader _ _ => true
  | .note _ _ => true
  | .waveEntry _ _ => true
  | .drumSample _ => true
  | .readU8 => true
  | .readU16le => true
  | .readU32le => true
  | .readS8 => true
  | .readS16be => true
  | .skip _ => true
  | .readWaveform => true
  | .construct _ _ _ _ => true
  | .produce _ => true
  | .step => true
  | .mixClamp => true

end Sys2Proof
end

