-- ==== Sys2Proof/Decode.lean ====
section
/-! DEFINITION. Decoding the five record rows from their bytes (30_encoding R110–R117), the
encoder, and the host's numbering of table words. The other rows are typed calls: they have no
bits (R123, D29), so nothing decodes to them. -/

namespace Sys2Proof

/-- `le16` (R17) of two bytes in stream order. -/
def le16 (b0 b1 : Byte) : BitVec 16 := b1 ++ b0

/-- `le32` (R17) of four bytes in stream order. -/
def le32 (b0 b1 b2 b3 : Byte) : BitVec 32 := b3 ++ b2 ++ b1 ++ b0

/-- The 16 bits of a big-endian pair (R17, R87). -/
def be16 (b0 b1 : Byte) : BitVec 16 := b0 ++ b1

/-- The six magic bytes as one value, byte 0 most significant (R112). -/
def magicWord (b0 b1 b2 b3 b4 b5 : Byte) : BitVec 48 := b0 ++ b1 ++ b2 ++ b3 ++ b4 ++ b5

/-- Byte `k` of a value, counted from its least significant byte (R17). -/
def byteOf {w : Nat} (v : BitVec w) (k : Nat) : Byte := v.extractLsb' (8 * k) 8

/-- The size of a record in bytes (R112–R116). -/
def RecordSel.width : RecordSel → Nat
  | .songHeader => 17
  | .instrumentHeader _ => 6
  | .note _ => 8
  | .waveEntry _ => 256
  | .drumSample => 2

/-- SONG_HEADER (R112), with the bytes after it. -/
def decodeSongHeader : List Byte → Option (SongHeaderRec × List Byte)
  | m0 :: m1 :: m2 :: m3 :: m4 :: m5 :: w :: t0 :: t1 :: s0 :: s1 :: s2 :: s3 ::
      e0 :: e1 :: e2 :: e3 :: rest =>
    some ({ magic := magicWord m0 m1 m2 m3 m4 m5, waitMs := w, timeSig0 := t0, timeSig1 := t1,
            startBeat := le32 s0 s1 s2 s3, endBeat := le32 e0 e1 e2 e3 }, rest)
  | _ => none

/-- INSTRUMENT_HEADER (R113), with the bytes after it. -/
def decodeInstrumentHeader : List Byte → Option (InstrumentRec × List Byte)
  | v0 :: v1 :: x :: f :: n0 :: n1 :: rest =>
    some ({ voiceId := le16 v0 v1, instrumentIndex := x, shortNoteByte := f,
            noteCount := le16 n0 n1 }, rest)
  | _ => none

/-- NOTE (R114), with the bytes after it. -/
def decodeNote : List Byte → Option (NoteRec × List Byte)
  | b0 :: b1 :: b2 :: b3 :: p :: l :: v :: a :: rest =>
    some ({ beat := le32 b0 b1 b2 b3, pitch := p, length := l, volume := v, pan := a }, rest)
  | _ => none

/-- WAVE_ENTRY (R115): byte j is sample j. -/
def decodeWaveEntry (bs : List Byte) : Option (Vector Byte 256 × List Byte) :=
  if h : (bs.take 256).length = 256 then
    some (⟨(bs.take 256).toArray, by simpa using h⟩, bs.drop 256)
  else none

/-- DRUM_SAMPLE (R116). -/
def decodeDrumSample : List Byte → Option (BitVec 16 × List Byte)
  | b0 :: b1 :: rest => some (be16 b0 b1, rest)
  | _ => none

/-- Why no record was decoded. -/
inductive DecodeError where
  /-- The bytes end inside the record. -/
  | truncated (sel : RecordSel)
deriving DecidableEq, Repr

/-- The decoder: the record that `sel` selects, at the front of any bytes, with the bytes
after it. -/
def decodeRecord (sel : RecordSel) (bs : List Byte) : Except DecodeError (Instr × List Byte) :=
  match sel with
  | .songHeader =>
    match decodeSongHeader bs with
    | some (h, rest) => .ok (.songHeader h, rest)
    | none => .error (.truncated sel)
  | .instrumentHeader i =>
    match decodeInstrumentHeader bs with
    | some (h, rest) => .ok (.instrumentHeader i h, rest)
    | none => .error (.truncated sel)
  | .note i =>
    match decodeNote bs with
    | some (r, rest) => .ok (.note i r, rest)
    | none => .error (.truncated sel)
  | .waveEntry w =>
    match decodeWaveEntry bs with
    | some (samples, rest) => .ok (.waveEntry w samples, rest)
    | none => .error (.truncated sel)
  | .drumSample =>
    match decodeDrumSample bs with
    | some (x, rest) => .ok (.drumSample x, rest)
    | none => .error (.truncated sel)

/-! ### The encoder -/

/-- Little-endian bytes of a u16 field (R86). -/
def bytesLe16 (v : BitVec 16) : List Byte := [byteOf v 0, byteOf v 1]

/-- Little-endian bytes of a u32 field (R86). -/
def bytesLe32 (v : BitVec 32) : List Byte := [byteOf v 0, byteOf v 1, byteOf v 2, byteOf v 3]

/-- The bytes of a SONG_HEADER (R112). -/
def encodeSongHeader (h : SongHeaderRec) : List Byte :=
  [byteOf h.magic 5, byteOf h.magic 4, byteOf h.magic 3, byteOf h.magic 2, byteOf h.magic 1,
   byteOf h.magic 0, h.waitMs, h.timeSig0, h.timeSig1] ++ bytesLe32 h.startBeat ++
  bytesLe32 h.endBeat

/-- The bytes of an INSTRUMENT_HEADER (R113). -/
def encodeInstrumentHeader (h : InstrumentRec) : List Byte :=
  bytesLe16 h.voiceId ++ [h.instrumentIndex, h.shortNoteByte] ++ bytesLe16 h.noteCount

/-- The bytes of a NOTE (R114). -/
def encodeNote (r : NoteRec) : List Byte :=
  bytesLe32 r.beat ++ [r.pitch, r.length, r.volume, r.pan]

/-- The record row of an operation, and none for a typed call. -/
def Instr.selector : Instr → Option RecordSel
  | .songHeader _ => some .songHeader
  | .instrumentHeader i _ => some (.instrumentHeader i)
  | .note i _ => some (.note i)
  | .waveEntry w _ => some (.waveEntry w)
  | .drumSample _ => some .drumSample
  | .readU8 => none
  | .readU16le => none
  | .readU32le => none
  | .readS8 => none
  | .readS16be => none
  | .skip _ => none
  | .readWaveform => none
  | .construct _ _ _ _ => none
  | .produce _ => none
  | .step => none
  | .melodicVoice _ => none
  | .percVoiceStream _ => none
  | .percVoiceSilent _ => none
  | .mixClamp => none

/-- The bytes of an operation, from the layouts of R112–R116. A typed call has none (R123). -/
def encode : Instr → List Byte
  | .songHeader h => encodeSongHeader h
  | .instrumentHeader _ h => encodeInstrumentHeader h
  | .note _ r => encodeNote r
  | .waveEntry _ samples => samples.toList
  | .drumSample x => [byteOf x 1, byteOf x 0]
  | .readU8 => []
  | .readU16le => []
  | .readU32le => []
  | .readS8 => []
  | .readS16be => []
  | .skip _ => []
  | .readWaveform => []
  | .construct _ _ _ _ => []
  | .produce _ => []
  | .step => []
  | .melodicVoice _ => []
  | .percVoiceStream _ => []
  | .percVoiceSilent _ => []
  | .mixClamp => []

/-! ### The host's numbering -/

/-- The first `n` bytes of a number whose bit 0 is the least significant bit of the first byte. -/
def tableBytes : Nat → Nat → List Byte
  | 0, _ => []
  | n + 1, w => BitVec.ofNat 8 w :: tableBytes n (w / 256)

/-- The record row that has this many bits. No two record rows have the same size, so the size
tells the row; the record is taken at the first offset where it can stand. The table writes a wave
entry as one byte repeated ("256 x ssssssss"), so 8 bits are its first byte and the others 0.
DESIGN CHOICE, log 13: the table selects a record by its offset (R123), which the host's word does
not carry. -/
def tableSelector (nbits : Nat) : Option RecordSel :=
  if nbits = 136 then some .songHeader
  else if nbits = 48 then some (.instrumentHeader 0)
  else if nbits = 64 then some (.note 0)
  else if nbits = 2048 ∨ nbits = 8 then some (.waveEntry 0)
  else if nbits = 16 then some .drumSample
  else none

/-- The operation the decoder reads from a table word of `nbits` bits. -/
def decodeTableWord (nbits w : Nat) : Option Instr :=
  match tableSelector nbits with
  | none => none
  | some sel =>
    match decodeRecord sel (tableBytes sel.width w) with
    | .ok (i, _) => some i
    | .error _ => none

end Sys2Proof
end

