-- ==== Sys2Proof/Machine/State.lean ====
section
/-! DEFINITION. The state of the block (10_state R30–R50), as plain data, and its value at
power-on. -/

namespace Sys2Proof.Machine

/-- `mode` (R31). -/
inductive Mode where
  | unconstructed
  | constructed
deriving DecidableEq, Repr

/-- The three error causes (R310). -/
inductive Err where
  | truncatedInput
  | invalidFormat
  | invalidIndex
deriving DecidableEq, Repr

/-- A note record (R36). `octave` and `pitchClass` are functions of `pitch`
(`Machine/Operands.lean`). Sample positions are unbounded naturals (R367, log 8). -/
structure Note where
  startSample : Nat
  endSample   : Nat
  pitch       : Level
  volume      : Level
  pan         : Level
  speed       : F64
deriving DecidableEq, Repr

/-- The instrument registers `song.inst[i]` (R35). -/
structure Instrument where
  voiceId         : BitVec 16
  instrumentIndex : Byte
  shortNoteFlag   : Bool
  noteCount       : BitVec 16
  notes           : List Note
deriving DecidableEq, Repr

/-- The song store (R34, R35). -/
structure Song where
  waitMs          : Byte
  timeSig         : Byte × Byte
  songStartSample : Nat
  songEndSample   : Nat
  inst            : Vector Instrument 16
deriving DecidableEq, Repr

/-- The melodic waveform bank `wave[w][j]` (R37). -/
abbrev WaveBank := Vector (Vector F64 256) 100

/-- The channel registers `ch[c]` (R39–R42). -/
structure Channel where
  noteIndex       : Nat
  wavetableOffset : F64
  samplesPlayed   : Nat
deriving DecidableEq, Repr

/-- What one channel adds to the mix in one STEP (R21). -/
structure Contribution where
  left  : F64
  right : F64
deriving DecidableEq, Repr

/-- An output frame (R21). -/
structure Frame where
  left  : F32
  right : F32
deriving DecidableEq, Repr

/-- A reader: a read-only byte buffer and a cursor into it (R44, R150). -/
structure Reader where
  buf : List Byte
  cur : Nat
deriving DecidableEq, Repr

/-- What a reader primitive returns (R152–R158). -/
inductive ReadValue where
  | nothing
  | num (v : Int)
  | block (bytes : List Byte)
deriving DecidableEq, Repr

/-- The inheritance accumulators (R45). -/
structure Prev where
  pitch  : Level
  length : Level
  volume : Level
  pan    : Level
deriving DecidableEq, Repr

/-- The state that exists only while a CONSTRUCT runs (R44, R45, R150): the configuration it was
given, its reader, what the last primitive returned, the error condition last raised, the
accumulators, and what has been decoded so far. -/
structure Assembly where
  cfg    : Cfg
  rd     : Reader
  value  : ReadValue
  raised : Option Err
  prev   : Prev
  song   : Song
  wave   : WaveBank
  d      : List F64
deriving DecidableEq, Repr

/-- What the host has been answered by its last completed transaction (R49). -/
inductive HostResult where
  /-- No transaction has completed yet. -/
  | nothing
  /-- CONSTRUCT returned `Ok(songStartSample, songEndSample)` (R240). -/
  | constructed (startSample endSample : Nat)
  /-- CONSTRUCT returned `Err(code)` (R315). -/
  | failed (e : Err)
  /-- PRODUCE returned these frames (R242). -/
  | frames (fs : List Frame)
deriving DecidableEq, Repr

/-- The whole state: the tuple of R30, the transient state of a CONSTRUCT and of a STEP, and the
host interface. -/
structure State where
  mode    : Mode
  cfg     : Cfg
  song    : Song
  wave    : WaveBank
  drum    : List (List F64)
  ch      : Vector Channel 16
  p       : Nat
  asm     : Assembly
  contrib : Vector Contribution 16
  frame   : Frame
  result  : HostResult
  pending : List Request
deriving DecidableEq, Repr

/-- Why the machine stops with a fault: "The model has one fault outcome" (R318). It is safe: no
claim is made about what follows. -/
inductive Fault where
  /-- `NonFinitePosition` (R250, R318): raised by MELODIC_VOICE, and so by STEP and PRODUCE, when
  the read position is ±∞ or NaN. The spec gives the faulted state no successor. Safe. -/
  | nonFinitePosition
deriving DecidableEq, Repr

/-- Why the machine refuses a request (R326). All are safe. -/
inductive Refusal where
  /-- An operation that has no meaning in the model. Raised by no arm of `exec`. Safe. -/
  | notModelled (mnemonic : String)
  /-- PRODUCE while `mode = UNCONSTRUCTED` (R326 a). Safe. -/
  | notConstructed
  /-- CONSTRUCT with a configuration outside its legal values (R326 b). Safe. -/
  | illegalConfig
  /-- CONSTRUCT with a number of drum buffers other than NUM_DRUMS (R326 c). Safe. -/
  | drumCount
  /-- A voice operation on a channel of the other kind, which R246, R256 and R257 do not give
  (log 2). Safe. -/
  | channelKind
deriving DecidableEq, Repr

/-- The error codes (R310). -/
def Err.code : Err → Nat
  | .truncatedInput => 1
  | .invalidFormat => 2
  | .invalidIndex => 3

/-- An instrument with no notes. -/
def Instrument.empty : Instrument where
  voiceId := 0#16
  instrumentIndex := 0#8
  shortNoteFlag := false
  noteCount := 0#16
  notes := []

/-- The song store before anything is decoded into it. -/
def Song.empty : Song where
  waitMs := 0#8
  timeSig := (0#8, 0#8)
  songStartSample := 0
  songEndSample := 0
  inst := Vector.replicate 16 Instrument.empty

/-- The bank before anything is decoded into it. -/
def WaveBank.empty : WaveBank := Vector.replicate 100 (Vector.replicate 256 0#64)

/-- The channel registers after CONSTRUCT and at a note's end (R50, R351). -/
def Channel.reset : Channel where
  noteIndex := 0
  wavetableOffset := 0#64
  samplesPlayed := 0

/-- Silence (R21). -/
def Contribution.silence : Contribution where
  left := 0#64
  right := 0#64

/-- The accumulators at the start of a note stream (R45). -/
def Prev.zero : Prev where
  pitch := 0
  length := 0
  volume := 0
  pan := 0

/-- The transient state of a CONSTRUCT, before one has run (log 4). -/
def Assembly.powerOn : Assembly where
  cfg := Cfg.powerOn
  rd := ⟨[], 0⟩
  value := .nothing
  raised := none
  prev := Prev.zero
  song := Song.empty
  wave := WaveBank.empty
  d := []

/-- Power-on (R350): UNCONSTRUCTED. R50 gives no other component a value; the values here are the
model's (DESIGN CHOICE, log 3 and log 4). -/
def State.reset : State where
  mode := .unconstructed
  cfg := Cfg.powerOn
  song := Song.empty
  wave := WaveBank.empty
  drum := []
  ch := Vector.replicate 16 Channel.reset
  p := 0
  asm := Assembly.powerOn
  contrib := Vector.replicate 16 Contribution.silence
  frame := ⟨0#32, 0#32⟩
  result := .nothing
  pending := []

end Sys2Proof.Machine
end

