-- ==== Sys2Proof/Machine/Float.lean ====
section
/-! DEFINITION. binary64 and binary32 arithmetic (00_scope R20): exact rational arithmetic and one
round-to-nearest-even. Results on non-finite operands, a zero divisor, overflow and signed zeros are
IEEE 754's (PRESUMED, log 5). -/

namespace Sys2Proof.Machine

/-! ### Reading a binary64 bit pattern -/

def fNeg (x : F64) : Bool := x.msb

def fExp (x : F64) : Nat := (x.extractLsb' 52 11).toNat

def fFrac (x : F64) : Nat := (x.extractLsb' 0 52).toNat

def fIsFinite (x : F64) : Bool := fExp x != 2047

def fIsNaN (x : F64) : Bool := fExp x == 2047 && fFrac x != 0

def fIsInf (x : F64) : Bool := fExp x == 2047 && fFrac x == 0

def fIsZero (x : F64) : Bool := fExp x == 0 && fFrac x == 0

/-- The magnitude of a finite value, in units of 2^−1074. -/
def fMag (x : F64) : Nat :=
  (if fExp x = 0 then fFrac x else fFrac x + 2 ^ 52) * 2 ^ (max (fExp x) 1 - 1)

/-- A finite value, in units of 2^−1074. On ±∞ it is ±2^1024 in the same units, beyond every
finite value. -/
def fScaled (x : F64) : Int := if fNeg x then -(fMag x : Int) else (fMag x : Int)

/-! ### Rounding -/

/-- The magnitude bits nearest to `num / den` (ties to even) in the binary format with `frac`
fraction bits, least positive value 2^−`unit`, and `top` the exponent field of infinity. With `u`
the spacing there, scaled by `den · 2^unit`, the quotient is rounded once; adding it to `t`
exponent steps makes the bit pattern, a carry moving into the exponent. -/
def roundMag (frac unit top num den : Nat) : Nat :=
  let n := num * 2 ^ unit
  let t := Nat.log2 (n / den) - frac
  let u := den * 2 ^ t
  let q := n / u
  let r := n % u
  let q' := if u < 2 * r ∨ (2 * r = u ∧ q % 2 = 1) then q + 1 else q
  min (t * 2 ^ frac + q') (top * 2 ^ frac)

/-- A binary64 from its sign and magnitude bits. -/
def f64OfMag (neg : Bool) (mag : Nat) : F64 :=
  BitVec.ofNat 64 ((if neg then 2 ^ 63 else 0) + mag)

/-- RN64 (R20) of `± num / den`. -/
def rn64 (neg : Bool) (num den : Nat) : F64 := f64OfMag neg (roundMag 52 1074 2047 num den)

/-- ±∞. -/
def f64Inf (neg : Bool) : F64 := f64OfMag neg (2047 * 2 ^ 52)

/-- The NaN of an operation: exponent all ones, quiet bit set, the rest free (log 6). -/
def f64NaN (op : FloatOp) (a b : F64) : F64 :=
  let f := Config.nanBits64 op a b
  f.extractLsb' 51 1 ++ 0x7ff#11 ++ 1#1 ++ f.extractLsb' 0 51

/-! ### The operations of R20 -/

/-- `a ⊕ b`. -/
def fadd (a b : F64) : F64 :=
  if fIsNaN a || fIsNaN b then f64NaN .add a b
  else if fIsInf a then
    if fIsInf b && fNeg a != fNeg b then f64NaN .add a b else a
  else if fIsInf b then b
  else
    let n := fScaled a + fScaled b
    if n = 0 then f64OfMag (fNeg a && fNeg b) 0
    else rn64 (decide (n < 0)) n.natAbs (2 ^ 1074)

/-- The value with the sign bit inverted. -/
def fneg (a : F64) : F64 := a ^^^ 0x8000000000000000#64

/-- `a ⊖ b`. -/
def fsub (a b : F64) : F64 := fadd a (fneg b)

/-- `a ⊗ b`. -/
def fmul (a b : F64) : F64 :=
  let neg := fNeg a != fNeg b
  if fIsNaN a || fIsNaN b then f64NaN .mul a b
  else if fIsInf a || fIsInf b then
    if fIsZero a || fIsZero b then f64NaN .mul a b else f64Inf neg
  else rn64 neg (fMag a * fMag b) (2 ^ 2148)

/-- `a ⊘ b`. R20 gives RN64 of the exact quotient, which a zero divisor does not have: a finite
non-zero dividend then gives the infinity of the exclusive or of the signs, and zero by zero a NaN,
as in IEEE 754 (PRESUMED, log 5). No division of a legal configuration has a zero divisor (R12,
R32). -/
def fdiv (a b : F64) : F64 :=
  let neg := fNeg a != fNeg b
  if fIsNaN a || fIsNaN b then f64NaN .div a b
  else if fIsInf a then
    if fIsInf b then f64NaN .div a b else f64Inf neg
  else if fIsInf b then f64OfMag neg 0
  else if fIsZero b then
    if fIsZero a then f64NaN .div a b else f64Inf neg
  else rn64 neg (fMag a) (fMag b)

/-- The conversion of an integer operand (R20), exact below 2^53. -/
def fofInt (z : Int) : F64 := rn64 (decide (z < 0)) z.natAbs 1

/-- The floor of a finite value as an integer (`/` on `Int` by a positive divisor is floor
division). -/
def fFloorInt (x : F64) : Int := fScaled x / 2 ^ 1074

/-- `floor64` (R20). A non-finite value is left as it is: R250 then sees a non-finite position.
The floor of a zero is +0.0 (log 15). -/
def ffloor (x : F64) : F64 := if fIsFinite x then fofInt (fFloorInt x) else x

/-- `a < b` on binary64, false where either is a NaN. -/
def flt (a b : F64) : Bool := !fIsNaN a && !fIsNaN b && decide (fScaled a < fScaled b)

/-- RN32 (R20). -/
def rn32 (x : F64) : F32 :=
  if fIsNaN x then
    let f := Config.nanBits32 x
    f.extractLsb' 22 1 ++ 0xff#8 ++ 1#1 ++ f.extractLsb' 0 22
  else
    let mag := if fIsInf x then 255 * 2 ^ 23 else roundMag 23 149 255 (fMag x) (2 ^ 1074)
    BitVec.ofNat 32 ((if fNeg x then 2 ^ 31 else 0) + mag)

/-- 1.0 -/
def fOne : F64 := 0x3ff0000000000000#64

/-- −1.0 -/
def fMinusOne : F64 := 0xbff0000000000000#64

end Sys2Proof.Machine
end

