-- ==== Sys2Proof/Machine/Gains.lean ====
section
/-! DEFINITION. The gain tables VOL_GAIN, PAN_L and PAN_R (43_playback_engine R248, R249), with the
entries that 95_test_vectors §3.4 lists (R15 allows them as tables; log 10). -/

namespace Sys2Proof.Machine

/-- `VOL_GAIN[v] = RN64(10^(v/254 − 1))`, v = 0..254 (R248). -/
def volGainTable : List F64 :=
  [0x3fb999999999999a#64, 0x3fb9d547c9cfbc66#64, 0x3fba11811b8d5075#64, 0x3fba4e46d32c49d7#64,
   0x3fba8b9a37fac2e6#64, 0x3fbac97c9441df06#64, 0x3fbb07ef354cbd88#64, 0x3fbb46f36b6f7ca9#64,
   0x3fbb868a8a0e4cfa#64, 0x3fbbc6b5e7a49542#64, 0x3fbc0776ddcc2700#64, 0x3fbc48cec94483c1#64,
   0x3fbc8abf09fa3366#64, 0x3fbccd49030e2b82#64, 0x3fbd106e1add4801#64, 0x3fbd542fbb07d531#64,
   0x3fbd988f50792b68#64] ++
  [0x3fbddd8e4b6f5c61#64, 0x3fbe232e1f82f27f#64, 0x3fbe697043aec21f#64, 0x3fbeb0563257cd28#64,
   0x3fbef7e1695538fb#64, 0x3fbf401369f856f0#64, 0x3fbf88edb914bf96#64, 0x3fbfd271df0880ce#64,
   0x3fc00e50b3e22f80#64, 0x3fc033bef16a14c5#64, 0x3fc0598471b3914f#64, 0x3fc07fa2002c3d5b#64,
   0x3fc0a6186a1befe4#64, 0x3fc0cce87ea91040#64, 0x3fc0f4130edcf1c7#64, 0x3fc11b98eda839a1#64,
   0x3fc1437aefe74ede#64] ++
  [0x3fc16bb9ec66d4de#64, 0x3fc19456bbe8302d#64, 0x3fc1bd52392615e7#64, 0x3fc1e6ad40d925bd#64,
   0x3fc21068b1bc8eba#64, 0x3fc23a856c92bed1#64, 0x3fc26504542a1d5e#64, 0x3fc28fe64d61d0af#64,
   0x3fc2bb2c3f2e8ea9#64, 0x3fc2e6d7129f78a4#64, 0x3fc312e7b2e302a2#64, 0x3fc33f5f0d4be5ee#64,
   0x3fc36c3e11561f49#64, 0x3fc39985b0abf8b4#64, 0x3fc3c736df2b1f01#64, 0x3fc3f55292e9c338#64,
   0x3fc423d9c43bc7f3#64] ++
  [0x3fc452cd6db7fad0#64, 0x3fc4822e8c3d5a09#64, 0x3fc4b1fe1ef86661#64, 0x3fc4e23d2768816d#64,
   0x3fc512eca9655867#64, 0x3fc5440dab245ba4#64, 0x3fc575a1353e42c0#64, 0x3fc5a7a852b49db0#64,
   0x3fc5da2410f772c8#64, 0x3fc60d157feae9dc#64, 0x3fc6407db1ed0496#64, 0x3fc6745dbbdb6423#64,
   0x3fc6a8b6b5191c57#64, 0x3fc6dd89b794945e#64, 0x3fc712d7dfcd752d#64, 0x3fc748a24cdaa5b9#64,
   0x3fc77eea2070552e#64] ++
  [0x3fc7b5b07ee61330#64, 0x3fc7ecf68f3cf65c#64, 0x3fc824bd7b25d119#64, 0x3fc85d066f0774dd#64,
   0x3fc895d29a05041b#64, 0x3fc8cf232e0452d8#64, 0x3fc908f95fb45632#64, 0x3fc943566693a2d7#64,
   0x3fc97e3b7cf6faad#64, 0x3fc9b9a9e00fe9b8#64, 0x3fc9f5a2cff3726f#64, 0x3fca32278fa0c99d#64,
   0x3fca6f39650821fb#64, 0x3fcaacd999118795#64, 0x3fcaeb0977a3cb3b#64, 0x3fcb29ca4fab7e06#64,
   0x3fcb691d7321fd2c#64] ++
  [0x3fcba90437148e40#64, 0x3fcbe97ff3ab8c05#64, 0x3fcc2a920431a3f7#64, 0x3fcc6c3bc71b24bd#64,
   0x3fccae7e9e0d5d9e#64, 0x3fccf15bede60f26#64, 0x3fcd34d51ec2ed28#64, 0x3fcd78eb9c093239#64,
   0x3fcdbda0d46d44de#64, 0x3fce02f639fa6e84#64, 0x3fce48ed421aa478#64, 0x3fce8f87659e6307#64,
   0x3fced6c620c49aea#64, 0x3fcf1eaaf342b131#64, 0x3fcf6737604c91d4#64, 0x3fcfb06cee9cd511#64,
   0x3fcffa4d287cf7ce#64] ++
  [0x3fd0226ccde6d390#64, 0x3fd04809ed078f97#64, 0x3fd06dfebc34cec6#64, 0x3fd0944c07daf3ac#64,
   0x3fd0baf29e42f196#64, 0x3fd0e1f34f96a38c#64, 0x3fd1094eede52d72#64, 0x3fd131064d27675b#64,
   0x3fd1591a4344532b#64, 0x3fd1818ba8159c9d#64, 0x3fd1aa5b556c23c8#64, 0x3fd1d38a2714923a#64,
   0x3fd1fd18fadbfabe#64, 0x3fd22708b09483f4#64, 0x3fd2515a2a1a1dbb#64, 0x3fd27c0e4b5741a4#64,
   0x3fd2a725fa49be6e#64] ++
  [0x3fd2d2a21f078eb4#64, 0x3fd2fe83a3c3bae4#64, 0x3fd32acb74d34695#64, 0x3fd3577a80b2295c#64,
   0x3fd38491b8085334#64, 0x3fd3b2120daebca1#64, 0x3fd3dffc76b48294#64, 0x3fd40e51ea640e47#64,
   0x3fd43d136248490f#64, 0x3fd46c41da31dc5a#64, 0x3fd49bde503c7de5#64, 0x3fd4cbe9c4d4484d#64,
   0x3fd4fc653abb2015#64, 0x3fd52d51b70e2543#64, 0x3fd55eb0414b31aa#64, 0x3fd59081e3566403#64,
   0x3fd5c2c7a97fb7f9#64] ++
  [0x3fd5f582a288ab32#64, 0x3fd628b3dfa9ef8f#64, 0x3fd65c5c74992aaa#64, 0x3fd6907d778ec2bd#64,
   0x3fd6c518014bb915#64, 0x3fd6fa2d2d1f921c#64, 0x3fd72fbe18ee4b39#64, 0x3fd765cbe5365e86#64,
   0x3fd79c57b516d497#64, 0x3fd7d362ae556460#64, 0x3fd80aedf964a167#64, 0x3fd842fac16a385b#64,
   0x3fd87b8a34453a35#64, 0x3fd8b49d82947608#64, 0x3fd8ee35dfbce19f#64, 0x3fd9285481f01107#64,
   0x3fd962faa232bd32#64] ++
  [0x3fd99e297c6359cd#64, 0x3fd9d9e24f40ba74#64, 0x3fda16265c70c75f#64, 0x3fda52f6e88741b5#64,
   0x3fda90553b0c97a2#64, 0x3fdace429e84c85f#64, 0x3fdb0cc060765841#64, 0x3fdb4bcfd1715503#64,
   0x3fdb8b7245166a71#64, 0x3fdbcba9121e0786#64, 0x3fdc0c75925f9442#64, 0x3fdc4dd922d8b846#64,
   0x3fdc8fd523b4b267#64, 0x3fdcd26af853c166#64, 0x3fdd159c07529ddf#64, 0x3fdd5969ba9205b8#64,
   0x3fdd9dd57f3e5917#64] ++
  [0x3fdde2e0c5d74923#64, 0x3fde288d023798a5#64, 0x3fde6edbab9ceec4#64, 0x3fdeb5ce3cafbbf8#64,
   0x3fdefd66338b3165#64, 0x3fdf45a511c54aca#64, 0x3fdf8e8c5c76eb31#64, 0x3fdfd81d9c440c7d#64,
   0x3fe0112d2eb2010e#64, 0x3fe036a217d4e778#64, 0x3fe05c6e53464755#64, 0x3fe08292ac97f961#64,
   0x3fe0a90ff136699d#64, 0x3fe0cfe6f06ce9a9#64, 0x3fe0f7187b6a0d38#64, 0x3fe11ea5654410a6#64,
   0x3fe1468e82fd49d6#64] ++
  [0x3fe16ed4ab88a36e#64, 0x3fe19778b7ce2277#64, 0x3fe1c07b82af769d#64, 0x3fe1e9dde90c94fb#64,
   0x3fe213a0c9c85dba#64, 0x3fe23dc505cd4c74#64, 0x3fe2684b8012338b#64, 0x3fe293351d9f028e#64,
   0x3fe2be82c59197b6#64, 0x3fe2ea3561229ca4#64, 0x3fe3164ddbaa6e75#64, 0x3fe342cd22a61143#64,
   0x3fe36fb425bc2f38#64, 0x3fe39d03d6c2233a#64, 0x3fe3cabd29c10f66#64, 0x3fe3f8e114faff60#64,
   0x3fe4277090f0169a#64] ++
  [0x3fe4566c9863cab4#64, 0x3fe485d628622a07#64, 0x3fe4b5ae40452e80#64, 0x3fe4e5f5e1ba1ce2#64,
   0x3fe516ae10c6f08f#64, 0x3fe547d7d3cfd3f6#64, 0x3fe57974339ca5bf#64, 0x3fe5ab843b5e8ad4#64,
   0x3fe5de08f8b58d6d#64, 0x3fe611037bb64931#64, 0x3fe64474d6efa493#64, 0x3fe6785e1f709783#64,
   0x3fe6acc06ccdff9d#64, 0x3fe6e19cd92881ed#64, 0x3fe716f481327a5f#64, 0x3fe74cc88435f919#64,
   0x3fe7831a041acdb6#64] ++
  [0x3fe7b9ea256ca0ab#64, 0x3fe7f13a0f611ad3#64, 0x3fe8290aebde1b66#64, 0x3fe8615de77ffc57#64,
   0x3fe89a34319fe560#64, 0x3fe8d38efc5a2dc1#64, 0x3fe90d6f7c94cce5#64, 0x3fe947d6ea05da07#64,
   0x3fe982c67f3a1b00#64, 0x3fe9be3f799ba25f#64, 0x3fe9fa4319787ced#64, 0x3fea36d2a2096ec1#64,
   0x3fea73ef5978c00c#64, 0x3feab19a88e919c0#64, 0x3feaefd57c7c7235#64, 0x3feb2ea1835b09ef#64,
   0x3feb6dffefba78b4#64] ++
  [0x3febadf216e4cb10#64, 0x3febee79513fb06c#64, 0x3fec2f96fa53b9e9#64, 0x3fec714c70d3aa18#64,
   0x3fecb39b16a3d5c3#64, 0x3fecf68450e195e4#64, 0x3fed3a0987eacafd#64, 0x3fed7e2c276571f2#64,
   0x3fedc2ed9e474a8a#64, 0x3fee084f5edd8fce#64, 0x3fee4e52ded4c265#64, 0x3fee94f997408515#64,
   0x3feedc4504a38b9e#64, 0x3fef2436a6f79c0e#64, 0x3fef6cd001b5a2c3#64, 0x3fefb6129bddd93f#64,
   0x3ff0000000000000#64]

/-- `RN64(cos(v·π/508))`, v = 0..254: PAN_L under CONSTANT_POWER (R249). -/
def panCosTable : List F64 :=
  [0x3ff0000000000000#64, 0x3fefffd7e5c62d08#64, 0x3fefff5f977d376e#64, 0x3feffe971652a818#64,
   0x3feffd7e643d0a99#64, 0x3feffc1583fbe83e#64, 0x3feffa5c7917c12e#64, 0x3feff85347e20390#64,
   0x3feff5f9f57500b5#64, 0x3feff35087b3e051#64, 0x3feff057054a91b9#64, 0x3fefed0d75adbb26#64,
   0x3fefe973e11aa70d#64, 0x3fefe58a50972f70#64, 0x3fefe150cdf1a748#64, 0x3fefdcc763c0c1ea#64,
   0x3fefd7ee1d637883#64] ++
  [0x3fefd2c50700ed94#64, 0x3fefcd4c2d884e7f#64, 0x3fefc7839eb0b319#64, 0x3fefc16b68f8fb4c#64,
   0x3fefbb039ba7aac1#64, 0x3fefb44c46cac298#64, 0x3fefad457b379928#64, 0x3fefa5ef4a8aafd1#64,
   0x3fef9e49c72786d6#64, 0x3fef965504386f46#64, 0x3fef8e1115ae5af6#64, 0x3fef857e1040aa81#64,
   0x3fef7c9c096cf95f#64, 0x3fef736b1776e807#64, 0x3fef69eb5167e420#64, 0x3fef601ccf0eeec6#64,
   0x3fef55ffa90060dd#64] ++
  [0x3fef4b93f895ad73#64, 0x3fef40d9d7ed223d#64, 0x3fef35d161e9a617#64, 0x3fef2a7ab23275ab#64,
   0x3fef1ed5e532de1b#64, 0x3fef12e31819f5c6#64, 0x3fef06a268da5327#64, 0x3feefa13f629c1c3#64,
   0x3feeed37df80f52d#64, 0x3feee00e451b3a2b#64, 0x3feed29747f625e7#64, 0x3feec4d309d14342#64,
   0x3feeb6c1ad2dbe3f#64, 0x3feea863554e0d85#64, 0x3fee99b8263599fe#64, 0x3fee8ac044a86498#64,
   0x3fee7b7bd62aaa1a#64] ++
  [0x3fee6beb01008521#64, 0x3fee5c0dec2d8e30#64, 0x3fee4be4bf7479ed#64, 0x3fee3b6fa356b579#64,
   0x3fee2aaec11400e4#64, 0x3fee19a242aa07d3#64, 0x3fee084a52d3f837#64, 0x3fedf6a71d0a173d#64,
   0x3fede4b8cd815451#64, 0x3fedd27f912ada5a#64, 0x3fedbffb95b39f0d#64, 0x3fedad2d0983f077#64,
   0x3fed9a141bbf00ab#64, 0x3fed86b0fc426f9c#64, 0x3fed7303dba5d326#64, 0x3fed5f0ceb3a3d41#64,
   0x3fed4acc5d09c069#64] ++
  [0x3fed364263d6f22e#64, 0x3fed216f331c6bfe#64, 0x3fed0c52ff0c4a1f#64, 0x3fecf6edfc8fa8d8#64,
   0x3fece14061461fd5#64, 0x3feccb4a63853bc5#64, 0x3fecb50c3a57f623#64, 0x3fec9e861d7e2b47#64,
   0x3fec87b8456c0ea5#64, 0x3fec70a2eb499d56#64, 0x3fec594648f20ecd#64, 0x3fec41a298f343dc#64,
   0x3fec29b8168d33ec#64, 0x3fec1186fdb1587f#64, 0x3febf90f8b0216f1#64, 0x3febe051fbd2287e#64,
   0x3febc74e8e240092#64] ++
  [0x3febae0580a93157#64, 0x3feb947712c1ce98#64, 0x3feb7aa3847bcee6#64, 0x3feb608b16926b0e#64,
   0x3feb462e0a6d7bd8#64, 0x3feb2b8ca220d61d#64, 0x3feb10a7206ba524#64, 0x3feaf57dc8b7c358#64,
   0x3feada10df191152#64, 0x3feabe60a84ccb3a#64, 0x3feaa26d69b8dc78#64, 0x3fea8637696b31c5#64,
   0x3fea69beee19099a#64, 0x3fea4d043f1e42f1#64, 0x3fea3007a47caa6c#64, 0x3fea12c966db45dd#64,
   0x3fe9f549cf859e2c#64] ++
  [0x3fe9d789286b079f#64, 0x3fe9b987bc1de88f#64, 0x3fe99b45d5d2fe7e#64, 0x3fe97cc3c160a198#64,
   0x3fe95e01cb3e069c#64, 0x3fe93f0040827f3a#64, 0x3fe91fbf6ee4b8d6#64, 0x3fe9003fa4b9f9c3#64,
   0x3fe8e08130f55cea#64, 0x3fe8c08463270bed#64, 0x3fe8a0498b7b77b7#64, 0x3fe87fd0faba8f8f#64,
   0x3fe85f1b0246f69c#64, 0x3fe83e27f41d37ea#64, 0x3fe81cf822d2f8ed#64, 0x3fe7fb8be1962a83#64,
   0x3fe7d9e3842c3878#64] ++
  [0x3fe7b7ff5ef13790#64, 0x3fe795dfc6d71217#64, 0x3fe773851164b2f8#64, 0x3fe750ef94b52f5f#64,
   0x3fe72e1fa776eeeb#64, 0x3fe70b15a0ead269#64, 0x3fe6e7d1d8e35924#64, 0x3fe6c454a7c3c4c5#64,
   0x3fe6a09e667f3bcd#64, 0x3fe67caf6e97eaa1#64, 0x3fe658881a1e2335#64, 0x3fe63428c3af7b4a#64,
   0x3fe60f91c675e956#64, 0x3fe5eac37e26dffe#64, 0x3fe5c5be47026844#64, 0x3fe5a0827dd23a46#64,
   0x3fe57b107fe8d4b4#64] ++
  [0x3fe55568ab2092e6#64, 0x3fe52f8b5ddac19f#64, 0x3fe50978f6feb286#64, 0x3fe4e331d5f8ce3d#64,
   0x3fe4bcb65ab9a53f#64, 0x3fe49606e5b4ff67#64, 0x3fe46f23d7e0ea2d#64, 0x3fe4480d92b4c5a3#64,
   0x3fe420c47828502b#64, 0x3fe3f948eab2b0e9#64, 0x3fe3d19b4d4980fa#64, 0x3fe3a9bc035fd36b#64,
   0x3fe381ab70e53bf5#64, 0x3fe35969fa44d484#64, 0x3fe330f804644186#64, 0x3fe30855f4a2b507#64,
   0x3fe2df8430d7f09d#64] ++
  [0x3fe2b6831f534627#64, 0x3fe28d5326da975e#64, 0x3fe263f4aea9543d#64, 0x3fe23a681e6f7845#64,
   0x3fe210adde508699#64, 0x3fe1e6c656e284fc#64, 0x3fe1bcb1f12cf5b0#64, 0x3fe1927116a7d032#64,
   0x3fe16804313a78e7#64, 0x3fe13d6bab3ab7a8#64, 0x3fe112a7ef6bad40#64, 0x3fe0e7b968fcc7d2#64,
   0x3fe0bca08388b636#64, 0x3fe0915dab145a44#64, 0x3fe065f14c0dba17#64, 0x3fe03a5bd34af048#64,
   0x3fe00e9dae091b27#64] ++
  [0x3fdfc56e93d695d5#64, 0x3fdf6d5229f2ddcd#64, 0x3fdf14e6fb3e838d#64, 0x3fdebc2de556698d#64,
   0x3fde6327c69ab3fc#64, 0x3fde09d57e2c9b5c#64, 0x3fddb037ebec3d45#64, 0x3fdd564ff0766b44#64,
   0x3fdcfc1e6d2277e5#64, 0x3fdca1a4440001e5#64, 0x3fdc46e257d4bd98#64, 0x3fdbebd98c1a3c8a#64,
   0x3fdb908ac4fbb358#64, 0x3fdb34f6e753bdcf#64, 0x3fdad91ed8aa2151#64, 0x3fda7d037f318d8a#64,
   0x3fda20a5c1c55b7a#64] ++
  [0x3fd9c40687e74ad1#64, 0x3fd96726b9bd3db7#64, 0x3fd90a07400ef2e9#64, 0x3fd8aca90443be4d#64,
   0x3fd84f0cf0603fee#64, 0x3fd7f133ef041974#64, 0x3fd7931eeb67a213#64, 0x3fd734ced15998f9#64,
   0x3fd6d6448d3cd64e#64, 0x3fd677810c05fab4#64, 0x3fd618853b391d60#64, 0x3fd5b95208e778ca#64,
   0x3fd559e863ad15fe#64, 0x3fd4fa493aae768d#64, 0x3fd49a757d963d2a#64, 0x3fd43a6e1c92d4f7#64,
   0x3fd3da3408541785#64] ++
  [0x3fd379c83208f198#64, 0x3fd3192b8b5d069e#64, 0x3fd2b85f067652fc#64, 0x3fd2576395f2cd1f#64,
   0x3fd1f63a2ce60567#64, 0x3fd194e3bed6c4e1#64, 0x3fd133613fbcaaee#64, 0x3fd0d1b3a3fdc9c6#64,
   0x3fd06fdbe06c41e3#64, 0x3fd00ddaea43dc6c#64, 0x3fcf57636e4f4908#64, 0x3fce92c27a3eff4c#64,
   0x3fcdcdd4e52b89f9#64, 0x3fcd089c9ca9a782#64, 0x3fcc431b8f095165#64, 0x3fcb7d53ab50e52f#64,
   0x3fcab746e1384bc9#64] ++
  [0x3fc9f0f721241ef8#64, 0x3fc92a665c20cd3b#64, 0x3fc8639683ddbbf7#64, 0x3fc79c898aa86816#64,
   0x3fc6d54163678511#64, 0x3fc60dc001961a7e#64, 0x3fc54607593ea02b#64, 0x3fc47e195ef618d0#64,
   0x3fc3b5f807d72b65#64, 0x3fc2eda5497d3b2b#64, 0x3fc2252319ff7e6f#64, 0x3fc15c736fec141d#64,
   0x3fc0939842431821#64, 0x3fbf952710e36d64#64, 0x3fbe02ce749a7d09#64, 0x3fbc702aa01c63f8#64,
   0x3fbadd3f8496aecd#64] ++
  [0x3fb94a1113e99087#64, 0x3fb7b6a3409dff69#64, 0x3fb622f9fddbd025#64, 0x3fb48f193f5fcf82#64,
   0x3fb2fb04f971da8b#64, 0x3fb166c120daf55c#64, 0x3fafa4a355b6c165#64, 0x3fac7b751a415c9c#64,
   0x3fa951ff7b77a887#64, 0x3fa6284a662e7ea4#64, 0x3fa2fe5dc7d9c8b6#64, 0x3f9fa8831cf14449#64,
   0x3f9953fb5102effb#64, 0x3f92ff34099c4f9c#64, 0x3f89547a4a207602#64, 0x3f79549a08a383a7#64,
   0x0000000000000000#64]

/-- VOL_GAIN (R248). -/
def volGain (v : Level) : F64 := volGainTable.getD v.val 0#64

/-- PAN_L (R249): 1.0 under UNITY. -/
def panLeft (law : PanLaw) (pan : Level) : F64 :=
  match law with
  | .unity => fOne
  | .constantPower => panCosTable.getD pan.val 0#64

/-- PAN_R (R249): `PAN_R[pan] = RN64(sin(pan·π/508))`, which is `PAN_L[254 − pan]`. -/
def panRight (law : PanLaw) (pan : Level) : F64 :=
  match law with
  | .unity => fOne
  | .constantPower => panCosTable.getD (254 - pan.val) 0#64

end Sys2Proof.Machine
end

