-- ==== Sys2Proof/Machine/Operands.lean ====
section
/-! DEFINITION. Every operand form (30_encoding R117, R118) and every value derived from operands
(41_song_parser R175–R184, 42_waveform_bank R220, R222, 43_playback_engine R249–R252). -/

namespace Sys2Proof.Machine

/-! ### Numbers from bytes (R17, R117) -/

/-- An unsigned little-endian number (R86). -/
def leNat : List Byte → Nat
  | [] => 0
  | b :: bs => b.toNat + 256 * leNat bs

/-- An unsigned big-endian number (R87). -/
def beNat : List Byte → Nat
  | [] => 0
  | b :: bs => b.toNat * 256 ^ bs.length + beNat bs

/-- A two's-complement big-endian number (R155, R156). -/
def beInt (bs : List Byte) : Int :=
  let u := beNat bs
  if 2 * u < 256 ^ bs.length then (u : Int) else (u : Int) - (256 ^ bs.length : Nat)

/-- Whether MAGIC_OK accepts the six header bytes (R13, R172). -/
def magicOk (cfg : Cfg) (m : BitVec 48) : Bool :=
  cfg.magic.any fun pat => m &&& pat.mask == pat.value &&& pat.mask

/-- A flag byte (R113, R117). -/
def flagOf (b : Byte) : Bool := b != 0#8

/-- A NOTE field: literal, or inherited where the byte is 0xFF (R118, R179). -/
def inherit (b : Byte) (prev : Level) : Level :=
  if h : b.toNat < 255 then ⟨b.toNat, h⟩ else prev

/-! ### Derived operands of a note -/

/-- `T(b)` (R175): the least sample position at or after beat `b`. -/
def beatToSample (cfg : Cfg) (waitMs : Byte) (b : Nat) : Nat :=
  (b * waitMs.toNat * cfg.sampleRate + 999) / 1000

/-- `octave` (R36, R181). -/
def Note.octave (n : Note) : Nat := n.pitch.val / 12

/-- The pitch class of a pitch (R181). -/
def pitchClassOf (pitch : Level) : Fin 12 := ⟨pitch.val % 12, Nat.mod_lt _ (by decide)⟩

/-- `pitchClass` (R36, R181). -/
def Note.pitchClass (n : Note) : Fin 12 := pitchClassOf n.pitch

/-- `pitchBend = voiceId − 1000` (R182). -/
def pitchBend (voiceId : BitVec 16) : Int := (voiceId.toNat : Int) - 1000

/-- `speed` (R184). -/
def noteSpeed (cfg : Cfg) (voiceId : BitVec 16) (pitch : Level) : F64 :=
  fdiv (fadd cfg.freqTable[pitchClassOf pitch] (fofInt (pitchBend voiceId)))
    (fofInt cfg.sampleRate)

/-! ### Samples -/

/-- A waveform byte: `s / 128` (R220). -/
def waveSample (b : Byte) : F64 := fdiv (fofInt b.toInt) (fofInt 128)

/-- A drum sample: `s ⊘ 32767` (R222). -/
def drumValue (s : BitVec 16) : F64 := fdiv (fofInt s.toInt) (fofInt 32767)

/-! ### Operands of a voice -/

/-- `(s ⊗ gl) ⊗ vg` and `(s ⊗ gr) ⊗ vg` (R252, R256). -/
def contributionOf (law : PanLaw) (n : Note) (s : F64) : Contribution where
  left  := fmul (fmul s (panLeft law n.pan)) (volGain n.volume)
  right := fmul (fmul s (panRight law n.pan)) (volGain n.volume)

/-- `OCT_REPEAT[octave]` (R250); past the table a free value (log 11). -/
def octRepeatAt (cfg : Cfg) (octave : Nat) : F64 :=
  if h : octave < 8 then cfg.octRepeat[octave] else Config.octRepeatBeyond octave

/-- `OCT_ADVANCE[octave]` (R250); past the table a free value (log 11). -/
def octAdvanceAt (cfg : Cfg) (octave : Nat) : F64 :=
  if h : octave < 8 then cfg.octAdvance[octave] else Config.octAdvanceBeyond octave

/-- `pos` (R250). -/
def readPosition (cfg : Cfg) (octave : Nat) (offset : F64) : F64 :=
  ffloor (fmul (fdiv (ffloor offset) (octRepeatAt cfg octave)) (octAdvanceAt cfg octave))

/-- `emod(pos, 256)` of a finite position (R19, R250). -/
def tableIndex (pos : F64) : Fin 256 :=
  ⟨(fFloorInt pos % 256).toNat, by omega⟩

/-- `clamp` (R259). -/
def clamp (x : F64) : F64 :=
  if flt fOne x then fOne else if flt x fMinusOne then fMinusOne else x

end Sys2Proof.Machine
end

