-- ==== Sys2Proof/Machine/Flags.lean ====
section
/-! DEFINITION. The conditions a voice computes fresh in every STEP (10_state R47), the short-note
gate (43_playback_engine R247) and the checks a CONSTRUCT makes (10_state R32, R241). The block
stores no flag but `shortNoteFlag`. -/

namespace Sys2Proof.Machine

/-- The current note, or none past the end (R245). -/
def currentNote (inst : Instrument) (k : Nat) : Option Note :=
  if k < inst.noteCount.toNat then inst.notes[k]? else none

/-- **started** (R47). -/
def started (p : Nat) (n : Note) : Bool := decide (n.startSample ≤ p)

/-- **ended** (R47). -/
def ended (p : Nat) (n : Note) : Bool := decide (n.endSample ≤ p)

/-- SHORT_NOTE_LIMIT (R9). -/
def shortNoteLimit : Nat := 256

/-- The short-note gate (R247). -/
def gateOpen (inst : Instrument) (ch : Channel) : Bool :=
  !inst.shortNoteFlag || decide (ch.samplesPlayed ≤ shortNoteLimit)

/-- The legal values of the configuration (R32). SAMPLE_RATE fits u32 (log 20). -/
def cfgLegal (cfg : Cfg) : Bool :=
  decide (1 ≤ cfg.sampleRate) && decide (cfg.sampleRate < 2 ^ 32) &&
  cfg.freqTable.toList.all fIsFinite &&
  cfg.octRepeat.toList.all (fun x => fIsFinite x && !fIsZero x) &&
  cfg.octAdvance.toList.all fIsFinite &&
  decide (cfg.numDrums ≤ 256)

/-- The channels in ascending order. -/
def channels : List (Fin 16) := [0, 1, 2, 3, 4, 5, 6, 7, 8, 9, 10, 11, 12, 13, 14, 15]

/-- What VALIDATE (R241) rejects in one channel: (a) and (b) for melodic channels, (c) for
percussion channels under STREAM. -/
def badIndex (cfg : Cfg) (song : Song) (c : Fin 16) : Bool :=
  let inst := song.inst[c]
  if isMelodic c then
    (decide (0 < inst.noteCount.toNat) && decide (100 ≤ inst.instrumentIndex.toNat)) ||
    inst.notes.any (fun n => decide (8 ≤ n.octave))
  else
    cfg.percMode == .stream && decide (0 < inst.noteCount.toNat) &&
    decide (cfg.numDrums ≤ inst.instrumentIndex.toNat)

/-- VALIDATE (R241): no channel has a bad index. -/
def validSong (cfg : Cfg) (song : Song) : Bool := channels.all fun c => !badIndex cfg song c

end Sys2Proof.Machine
end

