-- ==== Sys2Proof/Machine/Ops.lean ====
section
/-! DEFINITION. The named operations over buffers and registers: reading a buffer, raising an
error, and every update of State. Each meaning is written over these. -/

namespace Sys2Proof.Machine

/-! ### Buffers and the reader -/

/-- `MemRead(space, addr, n)` (R18): none where it would raise TruncatedInput. -/
def memRead (buf : List Byte) (addr n : Nat) : Option (List Byte) :=
  if addr + n ≤ buf.length then some ((buf.drop addr).take n) else none

/-- The bytes from the cursor on. -/
def Reader.rest (r : Reader) : List Byte := r.buf.drop r.cur

/-- "Every read advances the cursor by the read width" (R150). -/
def Reader.advance (r : Reader) (w : Nat) : Reader := ⟨r.buf, r.cur + w⟩

/-! ### Raising an error

The block's exception entry. Inside a CONSTRUCT a condition is raised by the operation that meets
it and changes nothing else (R151); CONSTRUCT then returns `Err(code)` to the host and changes no
state of the block (R315). There is no handler and no return operation (R316). -/

/-- Raise a condition inside a CONSTRUCT (R151): nothing else changes. -/
def Assembly.raise (e : Err) (a : Assembly) : Assembly :=
  { a with raised := some e }

/-- One reader primitive of width `w` (R151): its value and the cursor's advance, or
TruncatedInput and no change. -/
def Assembly.readBytes (w : Nat) (value : List Byte → ReadValue) (a : Assembly) : Assembly :=
  match memRead a.rd.buf a.rd.cur w with
  | some bs => { a with rd := a.rd.advance w, value := value bs, raised := none }
  | none => a.raise .truncatedInput

/-! ### Updates of State -/

/-- Replace the transient state of a CONSTRUCT. -/
def State.putAsm (a : Assembly) (s : State) : State := { s with asm := a }

/-- Error entry (R315): CONSTRUCT returns `Err(code)`; every component of R30 keeps its value. -/
def State.failWith (e : Err) (s : State) : State := { s with result := .failed e }

/-- A completed transaction answers the host (R92). -/
def State.putResult (r : HostResult) (s : State) : State := { s with result := r }

/-- What a voice operation writes: its contribution and its own channel registers (R39, R48). -/
def State.putVoice (c : Fin 16) (out : Contribution) (ch : Channel) (s : State) : State :=
  { s with contrib := s.contrib.set c out, ch := s.ch.set c ch }

/-- The frame MIX_CLAMP returns. -/
def State.putFrame (f : Frame) (s : State) : State := { s with frame := f }

/-- `p <- p + 1` (R261). -/
def State.advance (s : State) : State := { s with p := s.p + 1 }

/-- The requests that remain once the first is taken. -/
def State.dequeue (rest : List Request) (s : State) : State := { s with pending := rest }

/-- The commit of a CONSTRUCT (R240, R351): every component of R30 at once. -/
def State.commit (cfg : Cfg) (song : Song) (wave : WaveBank) (drum : List (List F64))
    (s : State) : State :=
  { s with
    mode := .constructed, cfg := cfg, song := song, wave := wave, drum := drum,
    ch := Vector.replicate 16 Channel.reset, p := 0 }

/-- NOTE_END (R255). -/
def Channel.noteEnd (ch : Channel) : Channel where
  noteIndex := ch.noteIndex + 1
  wavetableOffset := 0#64
  samplesPlayed := 0

/-- NOTE_END where the note has ended at position `p`, else no change (R246 step 4, R256). -/
def Channel.endIf (p : Nat) (n : Note) (ch : Channel) : Channel :=
  if ended p n then ch.noteEnd else ch

/-- The outcome of an operation that completes or faults. -/
def outcomeOf : Except Fault State → Host.Outcome State Fault Refusal
  | .ok s => .next s
  | .error r => .fault r

end Sys2Proof.Machine
end

