-- ==== Sys2Proof/Machine/Records.lean ====
section
/-! DEFINITION. The record decoders (41_song_parser R171, R176, R178, 42_waveform_bank R220, R222):
what a record's fields do to the song and the banks being decoded. CONSTRUCT
(`Machine/Construct.lean`) uses the same functions. -/

namespace Sys2Proof.Machine

/-- SONG_HEADER (R171): judge the magic, then write the header registers. -/
def songHeaderInto (cfg : Cfg) (h : SongHeaderRec) (song : Song) : Except Err Song :=
  if magicOk cfg h.magic then
    .ok { song with
      waitMs := h.waitMs
      timeSig := (h.timeSig0, h.timeSig1)
      songStartSample := beatToSample cfg h.waitMs h.startBeat.toNat
      songEndSample := beatToSample cfg h.waitMs h.endBeat.toNat }
  else .error .invalidFormat

/-- INSTRUMENT_HEADER (R176). -/
def instrumentHeaderInto (i : Fin 16) (h : InstrumentRec) (song : Song) : Song :=
  { song with
    inst := song.inst.set i { song.inst[i] with
      voiceId := h.voiceId
      instrumentIndex := h.instrumentIndex
      shortNoteFlag := flagOf h.shortNoteByte
      noteCount := h.noteCount } }

/-- The fields of a NOTE after inheritance, which are the accumulators it leaves (R178, R179). -/
def inheritAll (prev : Prev) (r : NoteRec) : Prev where
  pitch  := inherit r.pitch prev.pitch
  length := inherit r.length prev.length
  volume := inherit r.volume prev.volume
  pan    := inherit r.pan prev.pan

/-- The note record that the inherited fields `f` and the beat give (R178, R180–R184). -/
def noteOf (cfg : Cfg) (waitMs : Byte) (voiceId : BitVec 16) (beat : BitVec 32) (f : Prev) :
    Note where
  startSample := beatToSample cfg waitMs beat.toNat
  endSample   := beatToSample cfg waitMs (beat.toNat + f.length.val)
  pitch       := f.pitch
  volume      := f.volume
  pan         := f.pan
  speed       := noteSpeed cfg voiceId f.pitch

/-- Append one note to instrument `i` (R170: `raw <- raw ++ [NOTE(i)]`). -/
def appendNote (i : Fin 16) (n : Note) (song : Song) : Song :=
  { song with
    inst := song.inst.set i { song.inst[i] with notes := song.inst[i].notes ++ [n] } }

/-- NOTE(i) (R178) on the transient state. -/
def noteInto (i : Fin 16) (r : NoteRec) (a : Assembly) : Assembly :=
  let f := inheritAll a.prev r
  { a with
    prev := f
    song := appendNote i (noteOf a.cfg a.song.waitMs a.song.inst[i].voiceId r.beat f) a.song
    raised := none }

/-- WAVE_ENTRY w (R220) into a bank. -/
def waveEntryInto (w : Fin 100) (samples : Vector Byte 256) (wave : WaveBank) : WaveBank :=
  wave.set w (samples.map waveSample)

/-- DRUM_SAMPLE (R222): the value, twice. -/
def drumPair (x : BitVec 16) : List F64 := [drumValue x, drumValue x]

/-- SONG_HEADER (R171): InvalidFormat where MAGIC_OK rejects the magic (R172). It then leaves the
cursor where the fetch of the whole record put it (DESIGN CHOICE, log 12). -/
def execSongHeader (h : SongHeaderRec) (s : State) : Host.Outcome State Fault Refusal :=
  match songHeaderInto s.asm.cfg h s.asm.song with
  | .ok song => .next (s.putAsm { s.asm with song := song, raised := none })
  | .error e => .next (s.putAsm (s.asm.raise e))

/-- INSTRUMENT_HEADER (R176). -/
def execInstrumentHeader (i : Fin 16) (h : InstrumentRec) (s : State) :
    Host.Outcome State Fault Refusal :=
  .next (s.putAsm { s.asm with song := instrumentHeaderInto i h s.asm.song, raised := none })

/-- NOTE (R178). -/
def execNote (i : Fin 16) (r : NoteRec) (s : State) : Host.Outcome State Fault Refusal :=
  .next (s.putAsm (noteInto i r s.asm))

/-- WAVE_ENTRY (R220). -/
def execWaveEntry (w : Fin 100) (samples : Vector Byte 256) (s : State) :
    Host.Outcome State Fault Refusal :=
  .next (s.putAsm { s.asm with wave := waveEntryInto w samples s.asm.wave, raised := none })

/-- DRUM_SAMPLE (R222): `d <- d ++ [v, v]`. -/
def execDrumSample (x : BitVec 16) (s : State) : Host.Outcome State Fault Refusal :=
  .next (s.putAsm { s.asm with d := s.asm.d ++ drumPair x, raised := none })

end Sys2Proof.Machine
end

