-- ==== Sys2Proof/Machine/Construct.lean ====
section
/-! DEFINITION. CONSTRUCT (43_playback_engine R240) and its four stages: PARSE (41_song_parser
R170), the bank decoders (42_waveform_bank R220, R222) and VALIDATE (R241). -/

namespace Sys2Proof.Machine

/-! ### Stage 1: PARSE -/

/-- The first six bytes are there and MAGIC_OK rejects them. They are judged before byte 6 is
read (R314). -/
def magicRefused (cfg : Cfg) (bs : List Byte) : Bool :=
  match bs with
  | m0 :: m1 :: m2 :: m3 :: m4 :: m5 :: _ => !magicOk cfg (magicWord m0 m1 m2 m3 m4 m5)
  | _ => false

/-- SONG_HEADER at the front of the bytes (R171). A bad magic wins over a later truncation. -/
def parseHeader (cfg : Cfg) (bs : List Byte) : Except Err (Song × List Byte) :=
  if magicRefused cfg bs then .error .invalidFormat
  else
    match decodeSongHeader bs with
    | none => .error .truncatedInput
    | some (h, rest) =>
      match songHeaderInto cfg h Song.empty with
      | .ok song => .ok (song, rest)
      | .error e => .error e

/-- The instrument headers of the given instruments, in order (R170, R176). -/
def parseInstruments : List (Fin 16) → Song → List Byte → Except Err (Song × List Byte)
  | [], song, bs => .ok (song, bs)
  | i :: is, song, bs =>
    match decodeInstrumentHeader bs with
    | none => .error .truncatedInput
    | some (h, rest) => parseInstruments is (instrumentHeaderInto i h song) rest

/-- `n` NOTE records of one instrument, in file order (R170, R178). Running out of bytes here is
InvalidFormat (R186). -/
def parseNotes (cfg : Cfg) (waitMs : Byte) (voiceId : BitVec 16) :
    Nat → Prev → List Byte → Except Err (List Note × List Byte)
  | 0, _, bs => .ok ([], bs)
  | n + 1, prev, bs =>
    match decodeNote bs with
    | none => .error .invalidFormat
    | some (r, rest) =>
      let f := inheritAll prev r
      match parseNotes cfg waitMs voiceId n f rest with
      | .ok (notes, rest') => .ok (noteOf cfg waitMs voiceId r.beat f :: notes, rest')
      | .error e => .error e

/-- A note placed before the first one that starts no earlier. -/
def insertNote (n : Note) : List Note → List Note
  | [] => [n]
  | m :: ms => if n.startSample ≤ m.startSample then n :: m :: ms else m :: insertNote n ms

/-- `stable_sort_by(startSample, ·)` (R21, R185). -/
def sortNotes (ns : List Note) : List Note := ns.foldr insertNote []

/-- Give instrument `i` its notes. -/
def setNotes (i : Fin 16) (notes : List Note) (song : Song) : Song :=
  { song with inst := song.inst.set i { song.inst[i] with notes := notes } }

/-- The note streams of the given instruments, in order (R170, R177): the accumulators start at
zero in each, and each is sorted. -/
def parseStreams (cfg : Cfg) : List (Fin 16) → Song → List Byte → Except Err (Song × List Byte)
  | [], song, bs => .ok (song, bs)
  | i :: is, song, bs =>
    match parseNotes cfg song.waitMs song.inst[i].voiceId song.inst[i].noteCount.toNat
        Prev.zero bs with
    | .error e => .error e
    | .ok (raw, rest) => parseStreams cfg is (setNotes i (sortNotes raw) song) rest

/-- PARSE (R170). The bytes after the last note are not read (R187). -/
def parse (cfg : Cfg) (songIn : List Byte) : Except Err Song :=
  match parseHeader cfg songIn with
  | .error e => .error e
  | .ok (song₀, bs₀) =>
    match parseInstruments channels song₀ bs₀ with
    | .error e => .error e
    | .ok (song₁, bs₁) =>
      match parseStreams cfg channels song₁ bs₁ with
      | .error e => .error e
      | .ok (song₂, _) => .ok song₂

/-! ### Stages 2 and 3: the banks -/

/-- The wave entries of the given indices, in order (R220). -/
def decodeWaves : List (Fin 100) → WaveBank → List Byte → Except Err WaveBank
  | [], wave, _ => .ok wave
  | w :: ws, wave, bs =>
    match decodeWaveEntry bs with
    | none => .error .truncatedInput
    | some (samples, rest) => decodeWaves ws (waveEntryInto w samples wave) rest

/-- WAVE_DECODE (R220, R221). -/
def decodeWaveBank (waveIn : List Byte) : Except Err WaveBank :=
  decodeWaves (List.finRange 100) WaveBank.empty waveIn

/-- One drum buffer (R222); a lone last byte is TruncatedInput (R223). -/
def decodeDrum : List Byte → Except Err (List F64)
  | [] => .ok []
  | [_] => .error .truncatedInput
  | b0 :: b1 :: rest =>
    match decodeDrum rest with
    | .ok d => .ok (drumPair (be16 b0 b1) ++ d)
    | .error e => .error e

/-- DRUM_DECODE (R222): every buffer, in order. -/
def decodeDrums : List (List Byte) → Except Err (List (List F64))
  | [] => .ok []
  | buf :: bufs =>
    match decodeDrum buf with
    | .error e => .error e
    | .ok d =>
      match decodeDrums bufs with
      | .ok ds => .ok (d :: ds)
      | .error e => .error e

/-! ### The transaction -/

/-- The four stages in order; the first error wins (R240, R314). -/
def buildEngine (cfg : Cfg) (songIn waveIn : List Byte) (drumIn : List (List Byte)) :
    Except Err (Song × WaveBank × List (List F64)) :=
  match parse cfg songIn with
  | .error e => .error e
  | .ok song =>
    match decodeWaveBank waveIn with
    | .error e => .error e
    | .ok wave =>
      match decodeDrums drumIn with
      | .error e => .error e
      | .ok drum =>
        if validSong cfg song then .ok (song, wave, drum) else .error .invalidIndex

/-- CONSTRUCT (R240): refused outside the interface (R326 b, c), else `Err(code)` and no change
(R315), or the commit (R351) and `Ok(songStartSample, songEndSample)`. -/
def execConstruct (cfg : Cfg) (songIn waveIn : List Byte) (drumIn : List (List Byte))
    (s : State) : Host.Outcome State Fault Refusal :=
  if cfgLegal cfg then
    if drumIn.length = cfg.numDrums then
      match buildEngine cfg songIn waveIn drumIn with
      | .error e => .next (s.failWith e)
      | .ok (song, wave, drum) =>
        .next ((s.commit cfg song wave drum).putResult
          (.constructed song.songStartSample song.songEndSample))
    else .refused .drumCount
  else .refused .illegalConfig

end Sys2Proof.Machine
end

