-- ==== Sys2Proof/Machine/Voices.lean ====
section
/-! DEFINITION. The voice operations (43_playback_engine R246, R256, R257). A voice reads the song
store, a bank, the configuration and p, and writes its own channel's registers only (R48). None
reads `mode` (R48, log 2). -/

namespace Sys2Proof.Machine

/-- `wave[instrumentIndex][j]` (R251); past the bank a free value (R83, log 11). -/
def waveAt (wave : WaveBank) (instrumentIndex : Byte) (j : Fin 256) : F64 :=
  if h : instrumentIndex.toNat < 100 then wave[instrumentIndex.toNat][j]
  else Config.waveBeyond instrumentIndex.toNat j

/-- `drum[instrumentIndex]` (R256); past the bank a free sequence (R83, log 11). -/
def drumAt (drum : List (List F64)) (instrumentIndex : Byte) : List F64 :=
  drum[instrumentIndex.toNat]?.getD (Config.drumBeyond instrumentIndex.toNat)

/-- The sample a melodic voice reads for its note (R250, R251). -/
def melodicSample (cfg : Cfg) (wave : WaveBank) (inst : Instrument) (n : Note) (offset : F64) :
    Except Fault F64 :=
  let pos := readPosition cfg n.octave offset
  if fIsFinite pos then .ok (waveAt wave inst.instrumentIndex (tableIndex pos))
  else .error .nonFinitePosition

/-- The channel after a melodic tone sample (R253, R254). -/
def Channel.tone (n : Note) (ch : Channel) : Channel :=
  { ch with
    wavetableOffset := fadd ch.wavetableOffset n.speed
    samplesPlayed := ch.samplesPlayed + 1 }

/-- MELODIC_VOICE (R246) on the values it reads: the contribution and the channel it leaves. -/
def melodicStep (cfg : Cfg) (wave : WaveBank) (inst : Instrument) (p : Nat) (ch : Channel) :
    Except Fault (Contribution × Channel) :=
  match currentNote inst ch.noteIndex with
  | none => .ok (Contribution.silence, ch)
  | some n =>
    if started p n then
      if gateOpen inst ch then
        match melodicSample cfg wave inst n ch.wavetableOffset with
        | .error r => .error r
        | .ok x => .ok (contributionOf cfg.panLaw n x, (ch.tone n).endIf p n)
      else .ok (Contribution.silence, ch.endIf p n)
    else .ok (Contribution.silence, ch)

/-- PERC_VOICE_STREAM (R256) on the values it reads. -/
def percStep (cfg : Cfg) (drum : List (List F64)) (inst : Instrument) (p : Nat) (ch : Channel) :
    Contribution × Channel :=
  match currentNote inst ch.noteIndex with
  | none => (Contribution.silence, ch)
  | some n =>
    if started p n then
      match (drumAt drum inst.instrumentIndex)[ch.samplesPlayed]? with
      | some x =>
        (contributionOf cfg.panLaw n x,
          { ch with samplesPlayed := ch.samplesPlayed + 1 }.endIf p n)
      | none => (Contribution.silence, ch.endIf p n)
    else (Contribution.silence, ch)

/-- MELODIC_VOICE(c) on the state. -/
def melodicVoice (c : Fin 16) (s : State) : Except Fault State :=
  match melodicStep s.cfg s.wave s.song.inst[c] s.p s.ch[c] with
  | .error r => .error r
  | .ok (out, ch) => .ok (s.putVoice c out ch)

/-- PERC_VOICE_STREAM(c) on the state. -/
def percVoiceStream (c : Fin 16) (s : State) : State :=
  let r := percStep s.cfg s.drum s.song.inst[c] s.p s.ch[c]
  s.putVoice c r.1 r.2

/-- PERC_VOICE_SILENT(c) on the state (R257): silence, and no channel register is written. -/
def percVoiceSilent (c : Fin 16) (s : State) : State :=
  s.putVoice c Contribution.silence s.ch[c]

/-- The voice of a percussion channel, chosen by PERC_MODE (R244). Under SILENT it reads no drum
bank (R225). -/
def percVoice (c : Fin 16) (s : State) : State :=
  match s.cfg.percMode with
  | .stream => percVoiceStream c s
  | .silent => percVoiceSilent c s

/-- MELODIC_VOICE (R246), for channels 0..7. -/
def execMelodicVoice (c : Fin 16) (s : State) : Host.Outcome State Fault Refusal :=
  if isMelodic c then outcomeOf (melodicVoice c s) else .refused .channelKind

/-- PERC_VOICE_STREAM (R256), for channels 8..15. R256 gives it under STREAM. Requested on its own
under SILENT it is what R225 and R257 make of the channel there: silence, no register written and
no read of the drum bank (DEDUCED, log 2). -/
def execPercVoiceStream (c : Fin 16) (s : State) : Host.Outcome State Fault Refusal :=
  if isMelodic c then .refused .channelKind else .next (percVoice c s)

/-- PERC_VOICE_SILENT (R257), for channels 8..15. R257 gives it under SILENT; requested on its own
under STREAM it does the same (DESIGN CHOICE, log 2). -/
def execPercVoiceSilent (c : Fin 16) (s : State) : Host.Outcome State Fault Refusal :=
  if isMelodic c then .refused .channelKind else .next (percVoiceSilent c s)

end Sys2Proof.Machine
end

