-- ==== Sys2Proof/Machine/Engine.lean ====
section
/-! DEFINITION. MIX_CLAMP, STEP and PRODUCE (43_playback_engine R258, R243, R242). -/

namespace Sys2Proof.Machine

/-- One lane's sum, in ascending channel order from +0.0 (R258). -/
def mixLane (lane : Contribution → F64) (contrib : Vector Contribution 16) : F64 :=
  channels.foldl (fun acc c => fadd acc (lane contrib[c])) 0#64

/-- The frame of 16 contributions (R258–R260). -/
def mixFrame (contrib : Vector Contribution 16) : Frame where
  left  := rn32 (clamp (mixLane Contribution.left contrib))
  right := rn32 (clamp (mixLane Contribution.right contrib))

/-- MIX_CLAMP on the state. -/
def mixClamp (s : State) : State := s.putFrame (mixFrame s.contrib)

/-- VOICE(c) (R244): chosen by channel kind and PERC_MODE. -/
def voice (c : Fin 16) (s : State) : Except Fault State :=
  if isMelodic c then melodicVoice c s else .ok (percVoice c s)

/-- The voices of the given channels, in order. -/
def runVoices : List (Fin 16) → State → Except Fault State
  | [], s => .ok s
  | c :: cs, s =>
    match voice c s with
    | .ok s' => runVoices cs s'
    | .error r => .error r

/-- STEP (R243): every voice at the same p, the mix, then `p <- p + 1`. -/
def stepFrame (s : State) : Except Fault State :=
  match runVoices channels s with
  | .ok s' => .ok (mixClamp s').advance
  | .error r => .error r

/-- `n` STEPs and the frames they return, in order (R242). -/
def produceFrames : Nat → State → Except Fault (List Frame × State)
  | 0, s => .ok ([], s)
  | n + 1, s =>
    match stepFrame s with
    | .error r => .error r
    | .ok s' =>
      match produceFrames n s' with
      | .ok (fs, t) => .ok (s'.frame :: fs, t)
      | .error r => .error r

/-- MIX_CLAMP (R258). -/
def execMixClamp (s : State) : Host.Outcome State Fault Refusal := .next (mixClamp s)

/-- STEP (R243). -/
def execStep (s : State) : Host.Outcome State Fault Refusal := outcomeOf (stepFrame s)

/-- PRODUCE (R242): refused while UNCONSTRUCTED (R326 a). The frames are returned together
(R92). -/
def execProduce (n : BitVec 32) (s : State) : Host.Outcome State Fault Refusal :=
  match s.mode with
  | .unconstructed => .refused .notConstructed
  | .constructed =>
    match produceFrames n.toNat s with
    | .ok (fs, t) => .next (t.putResult (.frames fs))
    | .error r => .fault r

end Sys2Proof.Machine
end

