-- ==== Sys2Proof/Machine/Reader.lean ====
section
/-! DEFINITION. The StreamReader primitives (40_stream_reader R152–R158). -/

namespace Sys2Proof.Machine

/-- READ_U8 (R152). -/
def execReadU8 (s : State) : Host.Outcome State Fault Refusal :=
  .next (s.putAsm (s.asm.readBytes 1 fun bs => .num (leNat bs)))

/-- READ_U16LE (R153). -/
def execReadU16le (s : State) : Host.Outcome State Fault Refusal :=
  .next (s.putAsm (s.asm.readBytes 2 fun bs => .num (leNat bs)))

/-- READ_U32LE (R154). -/
def execReadU32le (s : State) : Host.Outcome State Fault Refusal :=
  .next (s.putAsm (s.asm.readBytes 4 fun bs => .num (leNat bs)))

/-- READ_S8 (R155). -/
def execReadS8 (s : State) : Host.Outcome State Fault Refusal :=
  .next (s.putAsm (s.asm.readBytes 1 fun bs => .num (beInt bs)))

/-- READ_S16BE (R156). -/
def execReadS16be (s : State) : Host.Outcome State Fault Refusal :=
  .next (s.putAsm (s.asm.readBytes 2 fun bs => .num (beInt bs)))

/-- SKIP (R157): it returns nothing. -/
def execSkip (n : Nat) (s : State) : Host.Outcome State Fault Refusal :=
  .next (s.putAsm (s.asm.readBytes n fun _ => .nothing))

/-- READ_WAVEFORM (R158): the raw bytes. -/
def execReadWaveform (s : State) : Host.Outcome State Fault Refusal :=
  .next (s.putAsm (s.asm.readBytes 256 fun bs => .block bs))

end Sys2Proof.Machine
end

