-- ==== Sys2Proof/Machine/Dispatch.lean ====
section
/-! DEFINITION. One arm per operation: each calls its own meaning. -/

namespace Sys2Proof.Machine

def exec (i : Instr) (s : State) : Host.Outcome State Fault Refusal :=
  match i with
  | .songHeader h => Sys2Proof.Machine.execSongHeader h s
  | .instrumentHeader k h => Sys2Proof.Machine.execInstrumentHeader k h s
  | .note k r => Sys2Proof.Machine.execNote k r s
  | .waveEntry w samples => Sys2Proof.Machine.execWaveEntry w samples s
  | .drumSample x => Sys2Proof.Machine.execDrumSample x s
  | .readU8 => Sys2Proof.Machine.execReadU8 s
  | .readU16le => Sys2Proof.Machine.execReadU16le s
  | .readU32le => Sys2Proof.Machine.execReadU32le s
  | .readS8 => Sys2Proof.Machine.execReadS8 s
  | .readS16be => Sys2Proof.Machine.execReadS16be s
  | .skip n => Sys2Proof.Machine.execSkip n s
  | .readWaveform => Sys2Proof.Machine.execReadWaveform s
  | .construct cfg songIn waveIn drumIn => Sys2Proof.Machine.execConstruct cfg songIn waveIn drumIn s
  | .produce n => Sys2Proof.Machine.execProduce n s
  | .step => Sys2Proof.Machine.execStep s
  | .melodicVoice c => Sys2Proof.Machine.execMelodicVoice c s
  | .percVoiceStream c => Sys2Proof.Machine.execPercVoiceStream c s
  | .percVoiceSilent c => Sys2Proof.Machine.execPercVoiceSilent c s
  | .mixClamp => Sys2Proof.Machine.execMixClamp s

end Sys2Proof.Machine
end

