-- ==== Sys2Proof/Machine/Fetch.lean ====
section
/-! DEFINITION. Fetching the record at the reader's cursor (10_state R44: the cursor "is the decode
program counter"). -/

namespace Sys2Proof.Machine

/-- The error a record reports when the buffer ends inside it (R186). A bad magic is judged before
the rest of the header is read (R314). -/
def truncationError (cfg : Cfg) (bs : List Byte) : RecordSel → Err
  | .songHeader => if magicRefused cfg bs then .invalidFormat else .truncatedInput
  | .instrumentHeader _ => .truncatedInput
  | .note _ => .invalidFormat
  | .waveEntry _ => .truncatedInput
  | .drumSample => .truncatedInput

/-- The record that `sel` selects at the cursor, and the transient state with the cursor behind
it. Where the cursor stands after a record that raises is the model's choice (DESIGN CHOICE,
log 12), since R44 discards it there: unmoved where the bytes run out, and behind all 17 bytes of a
complete SONG_HEADER whose magic is then rejected, where R171 raises after six reads. -/
def fetchRecord (sel : RecordSel) (a : Assembly) : Except Err (Instr × Assembly) :=
  match decodeRecord sel a.rd.rest with
  | .ok (i, _) => .ok (i, { a with rd := a.rd.advance sel.width })
  | .error _ => .error (truncationError a.cfg a.rd.rest sel)

end Sys2Proof.Machine
end

