-- ==== Sys2Proof/Machine/Step.lean ====
section
/-! DEFINITION. One step: take the oldest request, decode it if it is a record, and run it. -/

namespace Sys2Proof.Machine

/-- One step. With nothing pending the block is idle and nothing changes (R325). -/
def step (s : State) : Host.Outcome State Fault Refusal :=
  match s.pending with
  | [] => .next s
  | .call i :: rest => exec i (s.dequeue rest)
  | .record sel :: rest =>
    match fetchRecord sel s.asm with
    | .ok (i, a) => exec i ((s.dequeue rest).putAsm a)
    | .error e => .next ((s.dequeue rest).putAsm (s.asm.raise e))

/-- The state whose next step fetches and runs the record of this table word: its bytes are the
reader's buffer, and it is the oldest request (log 13). -/
def State.withFetchWord (s : State) (nbits w : Nat) : State :=
  match tableSelector nbits with
  | none => s
  | some sel =>
    { s with
      asm := { s.asm with rd := ⟨tableBytes sel.width w, 0⟩ }
      pending := .record sel :: s.pending }

end Sys2Proof.Machine
end

