-- ==== Sys2Proof/Safety.lean ====
section
/-! DEFINITION. What a good state is (the invariant every step keeps), when a voice's read position
is finite, and what a claim may say of an outcome. -/

namespace Sys2Proof.Machine

/-- Every instrument holds as many notes as its header counted (R35). -/
def Song.CountsAgree (song : Song) : Prop :=
  ∀ c : Fin 16, song.inst[c].notes.length = song.inst[c].noteCount.toNat

/-- Every instrument's notes are non-decreasing in `startSample` (R36, R185). -/
def Song.Sorted (song : Song) : Prop :=
  ∀ c : Fin 16, song.inst[c].notes.Pairwise fun m n => m.startSample ≤ n.startSample

/-- `endSample ≥ startSample` in every note (R36, R180). -/
def Song.WindowsOrdered (song : Song) : Prop :=
  ∀ c : Fin 16, ∀ n ∈ song.inst[c].notes, n.startSample ≤ n.endSample

/-- The invariant of the machine: what the spec's rules say of every state between operations. -/
structure State.Inv (s : State) : Prop where
  /-- The latched configuration is legal (R32, R326). -/
  cfgLegal : cfgLegal s.cfg = true
  /-- R35. -/
  counts : s.song.CountsAgree
  /-- R185. -/
  sorted : s.song.Sorted
  /-- R36. -/
  windows : s.song.WindowsOrdered
  /-- VALIDATE has passed (R83, R241). -/
  validated : validSong s.cfg s.song = true
  /-- Every wave entry is a decoded byte (R37). -/
  waveValues : ∀ (w : Fin 100) (j : Fin 256), ∃ b : Byte, s.wave[w][j] = waveSample b
  /-- The drum bank has NUM_DRUMS entries (R38, R224). -/
  drumCount : s.drum.length = s.cfg.numDrums
  /-- Every drum sequence has even length (R38). -/
  drumEven : ∀ d ∈ s.drum, d.length % 2 = 0
  /-- Every drum entry is a decoded sample (R38, R222). -/
  drumValues : ∀ d ∈ s.drum, ∀ v ∈ d, ∃ x : BitVec 16, v = drumValue x
  /-- `0 ≤ noteIndex ≤ noteCount` (R40, R263). -/
  noteIndex : ∀ c : Fin 16, s.ch[c].noteIndex ≤ s.song.inst[c].noteCount.toNat
  /-- A short note sounds for at most 257 STEPs (R247). -/
  shortNote : ∀ c : Fin 16, isMelodic c = true → s.song.inst[c].shortNoteFlag = true →
    s.ch[c].samplesPlayed ≤ 257
  /-- A percussion channel's offset stays +0.0 (R41). -/
  percOffset : ∀ c : Fin 16, isMelodic c = false → s.ch[c].wavetableOffset = 0#64
  /-- `cur ≤ len(buf)` (R150). -/
  cursor : s.asm.rd.cur ≤ s.asm.rd.buf.length

/-- If channel `c` produces a melodic tone in its next voice operation, the read position is
finite (R250: the voice faults otherwise). -/
def State.PositionFinite (s : State) (c : Fin 16) : Prop :=
  ∀ n : Note,
    currentNote s.song.inst[c] s.ch[c].noteIndex = some n →
    started s.p n = true → gateOpen s.song.inst[c] s.ch[c] = true →
    fIsFinite (readPosition s.cfg n.octave s.ch[c].wavetableOffset) = true

/-- Every melodic channel's next read position is finite. -/
def State.PositionsFinite (s : State) : Prop :=
  ∀ c : Fin 16, isMelodic c = true → s.PositionFinite c

/-- |x| ≤ 2^k for a finite binary64. -/
def fWithin (k : Int) (x : F64) : Prop :=
  fIsFinite x = true ∧ (fMag x : ℚ) ≤ (2 : ℚ) ^ (k + 1074)

/-- A sufficient condition for no read position to overflow in the next 2^32 STEPs, in the manner
of 93_implementation_defined I5: bounded speeds, offsets and octave tables. -/
structure State.Tame (s : State) : Prop where
  octRepeat : ∀ o : Fin 8, (2 : ℚ) ^ (-200 + 1074 : Int) ≤ (fMag s.cfg.octRepeat[o] : ℚ)
  octAdvance : ∀ o : Fin 8, fWithin 200 s.cfg.octAdvance[o]
  speed : ∀ c : Fin 16, ∀ n ∈ s.song.inst[c].notes, fWithin 500 n.speed
  offset : ∀ c : Fin 16, fWithin 500 s.ch[c].wavetableOffset

/-- The outcome is a next state that `P` holds of. -/
def Completes (o : Host.Outcome State Fault Refusal) (P : State → Prop) : Prop :=
  ∃ t, o = .next t ∧ P t

/-- The exact value of a finite binary64. -/
def fValue (x : F64) : ℚ := (fScaled x : ℚ) / 2 ^ 1074

/-- The exact value of a finite binary32. -/
def f32Value (x : F32) : ℚ :=
  let e := (x.extractLsb' 23 8).toNat
  let f := (x.extractLsb' 0 23).toNat
  let mag : ℚ := ((if e = 0 then f else f + 2 ^ 23) * 2 ^ (max e 1 - 1) : Nat) / 2 ^ 149
  if x.msb then -mag else mag

/-- The value is neither infinite nor a NaN. -/
def f32IsFinite (x : F32) : Bool := (x.extractLsb' 23 8).toNat != 255

end Sys2Proof.Machine
end

