-- ==== Sys2Proof/Certificates/Slice0/Obligations.lean ====
section
/-! DEFINITION. The statements for the provers. -/

namespace Sys2Proof.Claims

open Sys2Proof.Machine

/-! ### Words used by several statements -/

/-- The state a reader primitive of width `w` leaves when it returns `v`: the cursor behind the
bytes, the value returned, nothing raised, everything else as before. -/
def readDone (s : State) (w : Nat) (v : ReadValue) : State :=
  { s with asm := { s.asm with rd := ⟨s.asm.rd.buf, s.asm.rd.cur + w⟩, value := v, raised := none } }

/-- The state an internal operation leaves when it raises `e`: everything else as before. -/
def raised (s : State) (e : Err) : State := { s with asm := { s.asm with raised := some e } }

/-- The width of a reader primitive (R152–R158). -/
def readerWidth : Instr → Option Nat
  | .readU8 => some 1
  | .readU16le => some 2
  | .readU32le => some 4
  | .readS8 => some 1
  | .readS16be => some 2
  | .skip n => some n
  | .readWaveform => some 256
  | _ => none

/-- Run reader primitives one after another and collect what they return; none if one raises. -/
def runReads : List Instr → State → Option (List ReadValue × State)
  | [], s => some ([], s)
  | i :: is, s =>
    match exec i s with
    | .next t =>
      if t.asm.raised = none then
        match runReads is t with
        | some (vs, u) => some (t.asm.value :: vs, u)
        | none => none
      else none
    | _ => none

/-- `k` steps of the machine. -/
def runSteps : Nat → State → Host.Outcome State Fault Refusal
  | 0, s => .next s
  | k + 1, s =>
    match step s with
    | .next t => runSteps k t
    | .fault r => .fault r
    | .refused r => .refused r

/-- `m` STEPs. -/
def framesOn : Nat → State → Except Fault State
  | 0, s => .ok s
  | m + 1, s =>
    match stepFrame s with
    | .ok t => framesOn m t
    | .error r => .error r

/-- The exact sample time of beat `b` (R175): `B(b) = b · waitMs · SAMPLE_RATE / 1000`. -/
def exactTime (cfg : Cfg) (waitMs : Byte) (b : Nat) : ℚ :=
  (b : ℚ) * (waitMs.toNat : ℚ) * (cfg.sampleRate : ℚ) / 1000

/-- The value of a NOTE field: the raw byte, or the previous value where it is 0xFF (R179). -/
def fieldValue (b : Byte) (prev : Level) : Nat := if b = 0xFF#8 then prev.val else b.toNat

/-- No binary64 is nearer to `x` than `v` is. -/
def Nearest (v : F64) (x : ℝ) : Prop :=
  fIsFinite v = true ∧
  ∀ y : F64, fIsFinite y = true → |((fValue v : ℚ) : ℝ) - x| ≤ |((fValue y : ℚ) : ℝ) - x|

/-- No binary64 is nearer to `x` than `v` is, and where one is as near, `v` is the even one (R20). -/
def RoundedTo (v : F64) (x : ℚ) : Prop :=
  ∀ y : F64, fIsFinite y = true → |fValue v - x| ≤ |fValue y - x| ∧
    (|fValue v - x| = |fValue y - x| → fValue y ≠ fValue v → v.toNat % 2 = 0)

/-- The same for binary32. -/
def RoundedTo32 (v : F32) (x : ℚ) : Prop :=
  ∀ y : F32, f32IsFinite y = true → |f32Value v - x| ≤ |f32Value y - x| ∧
    (|f32Value v - x| = |f32Value y - x| → f32Value y ≠ f32Value v → v.toNat % 2 = 0)

/-- The pan angle θ of R249: −45° at 0, 0° at 127, +45° at 254. -/
noncomputable def panAngle (pan : Level) : ℝ := ((pan.val : ℝ) - 127) * (Real.pi / 4) / 127

/-- A SONG_IN laid out by R110: the header, the 16 instrument headers, the 16 note streams. -/
def assemble (h : SongHeaderRec) (insts : Vector InstrumentRec 16)
    (streams : Vector (List NoteRec) 16) : List Byte :=
  encodeSongHeader h ++ (channels.flatMap fun i => encodeInstrumentHeader insts[i]) ++
  (channels.flatMap fun i => streams[i].flatMap encodeNote)

/-- The notes of one stream in file order, the accumulators running through it (R178, R179). -/
def streamNotes (cfg : Cfg) (waitMs : Byte) (voiceId : BitVec 16) : Prev → List NoteRec → List Note
  | _, [] => []
  | prev, r :: rs =>
    noteOf cfg waitMs voiceId r.beat (inheritAll prev r) ::
      streamNotes cfg waitMs voiceId (inheritAll prev r) rs

/-- The byte at an offset of a buffer that is long enough. -/
def byteAt (bs : List Byte) (a : Nat) : Byte := bs.getD a 0#8

/-- `noteCount[i]` as the bytes at offsets 21 + 6i and 22 + 6i say (R110, R113). -/
def countAt (bs : List Byte) (i : Nat) : Nat :=
  (byteAt bs (21 + 6 * i)).toNat + 256 * (byteAt bs (22 + 6 * i)).toNat

/-- `N = Σ noteCount[i]` (R110). -/
def noteTotal (bs : List Byte) : Nat := ((List.range 16).map (countAt bs)).sum

/-- The magic bytes at offsets 0–5. -/
def magicAt (bs : List Byte) : BitVec 48 :=
  magicWord (byteAt bs 0) (byteAt bs 1) (byteAt bs 2) (byteAt bs 3) (byteAt bs 4) (byteAt bs 5)

/-- The error of a CONSTRUCT before stage 4, in the precedence of R314, from the lengths of the
inputs and the magic alone; none where stages 1 to 3 succeed (R311, R312). -/
def earlyError (cfg : Cfg) (songIn waveIn : List Byte) (drumIn : List (List Byte)) : Option Err :=
  if songIn.length < 6 then some .truncatedInput
  else if magicOk cfg (magicAt songIn) = false then some .invalidFormat
  else if songIn.length < 113 then some .truncatedInput
  else if songIn.length < 113 + 8 * noteTotal songIn then some .invalidFormat
  else if waveIn.length < 25600 then some .truncatedInput
  else if drumIn.any (fun d => decide (d.length % 2 = 1)) then some .truncatedInput
  else none

/-- The request that runs the voice of channel `c` (R244). -/
def voiceCall (mode : PercMode) (c : Fin 16) : Instr :=
  if isMelodic c then .melodicVoice c
  else match mode with
    | .stream => .percVoiceStream c
    | .silent => .percVoiceSilent c

/-- The operations of a STEP before p advances (R243): 16 voices and the mix. -/
def stepProgram (mode : PercMode) : List Request :=
  (channels.map fun c => .call (voiceCall mode c)) ++ [.call .mixClamp]

/-- Channel `c` has note `n` current and started (R245). -/
def Sounding (s : State) (c : Fin 16) (n : Note) : Prop :=
  s.ch[c].noteIndex < s.song.inst[c].noteCount.toNat ∧
  s.song.inst[c].notes[s.ch[c].noteIndex]? = some n ∧ n.startSample ≤ s.p

/-- Channel `c` has no current note, or one that has not started (R245). -/
def Waiting (s : State) (c : Fin 16) : Prop :=
  s.song.inst[c].noteCount.toNat ≤ s.ch[c].noteIndex ∨
  ∃ n, s.ch[c].noteIndex < s.song.inst[c].noteCount.toNat ∧
    s.song.inst[c].notes[s.ch[c].noteIndex]? = some n ∧ s.p < n.startSample

/-- The gains of R248 and R249 applied to a sample, in the order of R252. -/
def gained (s : State) (n : Note) (x : F64) : Contribution :=
  ⟨fmul (fmul x (panLeft s.cfg.panLaw n.pan)) (volGain n.volume),
   fmul (fmul x (panRight s.cfg.panLaw n.pan)) (volGain n.volume)⟩

/-- The state a voice leaves: channel `c`'s contribution and registers, everything else as
before. -/
def voiced (s : State) (c : Fin 16) (out : Contribution) (ch : Channel) : State :=
  { s with contrib := s.contrib.set c out, ch := s.ch.set c ch }

/-- The channel after its voice has run for note `n`: `ch` while the note goes on, and the reset
registers of NOTE_END (R255) once `p ≥ endSample`. -/
def afterNote (p : Nat) (n : Note) (ch : Channel) : Channel :=
  if n.endSample ≤ p then ⟨ch.noteIndex + 1, 0x0000000000000000#64, 0⟩ else ch

end Sys2Proof.Claims

open Sys2Proof Sys2Proof.Machine Sys2Proof.Claims

/-! ### Encoding -/

/-- Words written out from R112–R116 (95_test_vectors §3.2, §3.3) decode to their records. -/
def Obligations.SpecWordsDecode : Prop :=
  decodeRecord .songHeader
      [0x4E#8, 0x41#8, 0x45#8, 0x2D#8, 0x54#8, 0x31#8, 0x08#8, 0x03#8, 0x04#8,
       0x0A#8, 0x00#8, 0x00#8, 0x00#8, 0x14#8, 0x00#8, 0x00#8, 0x00#8] =
    .ok (.songHeader ⟨0x4E41452D5431#48, 8#8, 3#8, 4#8, 10#32, 20#32⟩, []) ∧
  decodeRecord (.instrumentHeader 3) [0xE8#8, 0x03#8, 0x05#8, 0x01#8, 0x02#8, 0x00#8] =
    .ok (.instrumentHeader 3 ⟨1000#16, 5#8, 1#8, 2#16⟩, []) ∧
  decodeRecord (.note 7) [0x12#8, 0x00#8, 0x00#8, 0x00#8, 0x3E#8, 0xFF#8, 0x64#8, 0xFF#8, 0xAA#8] =
    .ok (.note 7 ⟨18#32, 62#8, 0xFF#8, 100#8, 0xFF#8⟩, [0xAA#8]) ∧
  decodeRecord .drumSample [0xC0#8, 0x01#8] = .ok (.drumSample 0xC001#16, [])

/-- Decoding what the encoder writes gives the operation back, with every operand at every value,
for each of the five record rows and whatever bytes follow (R110–R116). -/
def Obligations.DecodeOfEncode : Prop :=
  ∀ (i : Instr) (sel : RecordSel) (rest : List Byte),
    i.selector = some sel → decodeRecord sel (encode i ++ rest) = .ok (i, rest)

/-- What decodes is what the encoder writes, with the bytes after it: no bit of a record is dropped
and no two byte strings give one record. -/
def Obligations.EncodeOfDecode : Prop :=
  ∀ (sel : RecordSel) (bs rest : List Byte) (i : Instr),
    decodeRecord sel bs = .ok (i, rest) →
      bs = encode i ++ rest ∧ i.selector = some sel ∧ i.wellFormed = true

/-- The decoder refuses exactly the byte strings shorter than the record (R112–R116). -/
def Obligations.DecodeRefusesShortBytes : Prop :=
  ∀ (sel : RecordSel) (bs : List Byte),
    (decodeRecord sel bs = .error (.truncated sel) ↔ bs.length < sel.width) ∧
    (sel.width ≤ bs.length → ∃ i, decodeRecord sel bs = .ok (i, bs.drop sel.width))

/-- A record's fields are what the reader primitives of its pseudocode return in order, and the
primitives move the cursor by the record's size (R171, R176, R178, R220, R222 over R152–R158). -/
def Obligations.RecordsAreReadByThePrimitives : Prop :=
  (∀ (s : State) (h : SongHeaderRec) (rest : List Byte),
    decodeSongHeader s.asm.rd.rest = some (h, rest) →
      runReads [.readU8, .readU8, .readU8, .readU8, .readU8, .readU8, .readU8, .readU8, .readU8,
          .readU32le, .readU32le] s =
        some ([.num (byteOf h.magic 5).toNat, .num (byteOf h.magic 4).toNat,
            .num (byteOf h.magic 3).toNat, .num (byteOf h.magic 2).toNat,
            .num (byteOf h.magic 1).toNat, .num (byteOf h.magic 0).toNat,
            .num h.waitMs.toNat, .num h.timeSig0.toNat, .num h.timeSig1.toNat,
            .num h.startBeat.toNat, .num h.endBeat.toNat],
          readDone s 17 (.num h.endBeat.toNat))) ∧
  (∀ (s : State) (h : InstrumentRec) (rest : List Byte),
    decodeInstrumentHeader s.asm.rd.rest = some (h, rest) →
      runReads [.readU16le, .readU8, .readU8, .readU16le] s =
        some ([.num h.voiceId.toNat, .num h.instrumentIndex.toNat, .num h.shortNoteByte.toNat,
            .num h.noteCount.toNat],
          readDone s 6 (.num h.noteCount.toNat))) ∧
  (∀ (s : State) (r : NoteRec) (rest : List Byte),
    decodeNote s.asm.rd.rest = some (r, rest) →
      runReads [.readU32le, .readU8, .readU8, .readU8, .readU8] s =
        some ([.num r.beat.toNat, .num r.pitch.toNat, .num r.length.toNat, .num r.volume.toNat,
            .num r.pan.toNat],
          readDone s 8 (.num r.pan.toNat))) ∧
  (∀ (s : State) (b : Vector Byte 256) (rest : List Byte),
    decodeWaveEntry s.asm.rd.rest = some (b, rest) →
      runReads [.readWaveform] s =
        some ([.block b.toList], readDone s 256 (.block b.toList))) ∧
  (∀ (s : State) (x : BitVec 16) (rest : List Byte),
    decodeDrumSample s.asm.rd.rest = some (x, rest) →
      runReads [.readS16be] s = some ([.num x.toInt], readDone s 2 (.num x.toInt)))

/-! ### A step -/

/-- A step runs what it fetches. A typed call is taken from the queue and run; a record that
decodes at the cursor is run with the cursor behind it; with nothing pending the block is idle and
nothing changes (R325). The queue is the model's (log 1). -/
def Obligations.StepRunsTheDecodedOperation : Prop :=
  (∀ (s : State) (i : Instr) (more : List Request),
    s.pending = .call i :: more → step s = exec i { s with pending := more }) ∧
  (∀ (s : State) (sel : RecordSel) (more : List Request) (i : Instr) (rest : List Byte),
    s.pending = .record sel :: more →
    decodeRecord sel (s.asm.rd.buf.drop s.asm.rd.cur) = .ok (i, rest) →
      step s = exec i { s with
        pending := more
        asm := { s.asm with rd := ⟨s.asm.rd.buf, s.asm.rd.cur + sel.width⟩ } }) ∧
  (∀ s : State, s.pending = [] → step s = .next s)

/-- A record that the buffer ends inside raises its error: InvalidFormat in a note stream,
TruncatedInput everywhere else (R186, R221, R223); a bad magic in the first six bytes raises
InvalidFormat first (R314). That it changes nothing else, the cursor staying where it was, is the
model's choice (log 12): the pseudocode's earlier reads have moved it, and R44 discards it there. The
queue that the request is taken from is the model's too (log 1). -/
def Obligations.StepRaisesOnAShortRecord : Prop :=
  ∀ (s : State) (sel : RecordSel) (more : List Request),
    s.pending = .record sel :: more →
    (s.asm.rd.buf.drop s.asm.rd.cur).length < sel.width →
      step s = .next (raised { s with pending := more }
        (match sel with
          | .note _ => .invalidFormat
          | .songHeader =>
            if 6 ≤ (s.asm.rd.buf.drop s.asm.rd.cur).length ∧
                magicOk s.asm.cfg (magicAt (s.asm.rd.buf.drop s.asm.rd.cur)) = false
            then .invalidFormat else .truncatedInput
          | _ => .truncatedInput))

/-! ### The reader -/

/-- READ_U8, READ_U16LE and READ_U32LE (R152–R154): the value, the cursor and nothing else, or
TruncatedInput and no change. -/
def Obligations.UnsignedReads : Prop :=
  (∀ (s : State) (b0 : Byte) (rest : List Byte),
    s.asm.rd.buf.drop s.asm.rd.cur = b0 :: rest →
      exec .readU8 s = .next (readDone s 1 (.num b0.toNat))) ∧
  (∀ (s : State) (b0 b1 : Byte) (rest : List Byte),
    s.asm.rd.buf.drop s.asm.rd.cur = b0 :: b1 :: rest →
      exec .readU16le s = .next (readDone s 2 (.num (b0.toNat + 256 * b1.toNat)))) ∧
  (∀ (s : State) (b0 b1 b2 b3 : Byte) (rest : List Byte),
    s.asm.rd.buf.drop s.asm.rd.cur = b0 :: b1 :: b2 :: b3 :: rest →
      exec .readU32le s = .next (readDone s 4
        (.num (b0.toNat + 2 ^ 8 * b1.toNat + 2 ^ 16 * b2.toNat + 2 ^ 24 * b3.toNat)))) ∧
  (∀ s : State,
    (s.asm.rd.buf.length < s.asm.rd.cur + 1 →
      exec .readU8 s = .next (raised s .truncatedInput)) ∧
    (s.asm.rd.buf.length < s.asm.rd.cur + 2 →
      exec .readU16le s = .next (raised s .truncatedInput)) ∧
    (s.asm.rd.buf.length < s.asm.rd.cur + 4 →
      exec .readU32le s = .next (raised s .truncatedInput)))

/-- READ_S8 and READ_S16BE (R155, R156). -/
def Obligations.SignedReads : Prop :=
  (∀ (s : State) (b0 : Byte) (rest : List Byte),
    s.asm.rd.buf.drop s.asm.rd.cur = b0 :: rest →
      exec .readS8 s = .next (readDone s 1
        (.num (if b0.toNat < 0x80 then (b0.toNat : Int) else (b0.toNat : Int) - 256)))) ∧
  (∀ (s : State) (b0 b1 : Byte) (rest : List Byte),
    s.asm.rd.buf.drop s.asm.rd.cur = b0 :: b1 :: rest →
      exec .readS16be s = .next (readDone s 2
        (.num (if 256 * b0.toNat + b1.toNat < 0x8000
          then ((256 * b0.toNat + b1.toNat : Nat) : Int)
          else ((256 * b0.toNat + b1.toNat : Nat) : Int) - 65536)))) ∧
  (∀ s : State,
    (s.asm.rd.buf.length < s.asm.rd.cur + 1 →
      exec .readS8 s = .next (raised s .truncatedInput)) ∧
    (s.asm.rd.buf.length < s.asm.rd.cur + 2 →
      exec .readS16be s = .next (raised s .truncatedInput)))

/-- SKIP and READ_WAVEFORM (R157, R158). -/
def Obligations.SkipAndWaveformReads : Prop :=
  (∀ (s : State) (n : Nat),
    (s.asm.rd.cur + n ≤ s.asm.rd.buf.length →
      exec (.skip n) s = .next (readDone s n .nothing)) ∧
    (s.asm.rd.buf.length < s.asm.rd.cur + n →
      exec (.skip n) s = .next (raised s .truncatedInput))) ∧
  (∀ s : State,
    (s.asm.rd.cur + 256 ≤ s.asm.rd.buf.length →
      exec .readWaveform s = .next (readDone s 256
        (.block ((List.range 256).map fun j => byteAt s.asm.rd.buf (s.asm.rd.cur + j))))) ∧
    (s.asm.rd.buf.length < s.asm.rd.cur + 256 →
      exec .readWaveform s = .next (raised s .truncatedInput)))

/-- A primitive of width `w` that finds `cur + w > len(buf)` changes nothing, including `cur`, and
raises TruncatedInput; one that succeeds advances `cur` by exactly its width and raises nothing
(R150, R151). -/
def Obligations.ShortReadsChangeNothing : Prop :=
  ∀ (i : Instr) (w : Nat) (s : State), readerWidth i = some w →
    (s.asm.rd.buf.length < s.asm.rd.cur + w →
      exec i s = .next (raised s .truncatedInput)) ∧
    (s.asm.rd.cur + w ≤ s.asm.rd.buf.length →
      ∃ v, exec i s = .next (readDone s w v))

/-! ### Record decoders -/

/-- SONG_HEADER with an accepted magic writes the header registers of the song being decoded, the
two song times as the least sample position at or after the beat, and nothing else (R171, R173–R175,
R190). -/
def Obligations.SongHeaderWritesItsRegisters : Prop :=
  ∀ (h : SongHeaderRec) (s : State), magicOk s.asm.cfg h.magic = true →
    exec (.songHeader h) s = .next { s with asm := { s.asm with
      raised := none
      song := { s.asm.song with
        waitMs := h.waitMs
        timeSig := (h.timeSig0, h.timeSig1)
        songStartSample := ⌈exactTime s.asm.cfg h.waitMs h.startBeat.toNat⌉₊
        songEndSample := ⌈exactTime s.asm.cfg h.waitMs h.endBeat.toNat⌉₊ } } }

/-- A magic that MAGIC_OK rejects raises InvalidFormat, and PARSE raises it whatever follows the six
bytes (R172). That a SONG_HEADER requested on its own then changes nothing else, the cursor staying
where the fetch of the whole record put it, is the model's choice (log 12). -/
def Obligations.BadMagicRaisesInvalidFormat : Prop :=
  (∀ (h : SongHeaderRec) (s : State),
    (∀ pat ∈ s.asm.cfg.magic, h.magic &&& pat.mask ≠ pat.value &&& pat.mask) →
      exec (.songHeader h) s = .next (raised s .invalidFormat)) ∧
  (∀ (cfg : Cfg) (bs : List Byte), 6 ≤ bs.length →
    (∀ pat ∈ cfg.magic, magicAt bs &&& pat.mask ≠ pat.value &&& pat.mask) →
      parse cfg bs = .error .invalidFormat)

/-- INSTRUMENT_HEADER(i) writes the four fields of instrument `i`, the flag true iff its byte is not
zero, and nothing else (R176). -/
def Obligations.InstrumentHeaderWritesItsRegisters : Prop :=
  ∀ (i : Fin 16) (h : InstrumentRec) (s : State),
    ∃ t, exec (.instrumentHeader i h) s = .next t ∧
      t = { s with asm := { s.asm with raised := none, song := t.asm.song } } ∧
      t.asm.song = { s.asm.song with inst := t.asm.song.inst } ∧
      (∀ j : Fin 16, j ≠ i → t.asm.song.inst[j] = s.asm.song.inst[j]) ∧
      t.asm.song.inst[i].voiceId = h.voiceId ∧
      t.asm.song.inst[i].instrumentIndex = h.instrumentIndex ∧
      (t.asm.song.inst[i].shortNoteFlag = true ↔ h.shortNoteByte ≠ 0#8) ∧
      t.asm.song.inst[i].noteCount = h.noteCount ∧
      t.asm.song.inst[i].notes = s.asm.song.inst[i].notes

/-- NOTE(i) applies sentinel inheritance to each field, leaves the decoded values in the
accumulators, and appends one note with its times and speed to instrument `i`; nothing else changes
(R178–R184). -/
def Obligations.NoteAppendsTheDecodedNote : Prop :=
  ∀ (i : Fin 16) (r : NoteRec) (s : State),
    ∃ t n, exec (.note i r) s = .next t ∧
      t = { s with asm := { s.asm with
        prev := t.asm.prev, song := t.asm.song, raised := none } } ∧
      t.asm.song = { s.asm.song with inst := t.asm.song.inst } ∧
      (∀ j : Fin 16, j ≠ i → t.asm.song.inst[j] = s.asm.song.inst[j]) ∧
      t.asm.song.inst[i] = { s.asm.song.inst[i] with notes := s.asm.song.inst[i].notes ++ [n] } ∧
      t.asm.prev.pitch.val = fieldValue r.pitch s.asm.prev.pitch ∧
      t.asm.prev.length.val = fieldValue r.length s.asm.prev.length ∧
      t.asm.prev.volume.val = fieldValue r.volume s.asm.prev.volume ∧
      t.asm.prev.pan.val = fieldValue r.pan s.asm.prev.pan ∧
      n.pitch = t.asm.prev.pitch ∧ n.volume = t.asm.prev.volume ∧ n.pan = t.asm.prev.pan ∧
      n.octave = n.pitch.val / 12 ∧ n.pitchClass.val = n.pitch.val % 12 ∧
      n.startSample = ⌈exactTime s.asm.cfg s.asm.song.waitMs r.beat.toNat⌉₊ ∧
      n.endSample = ⌈exactTime s.asm.cfg s.asm.song.waitMs
        (r.beat.toNat + t.asm.prev.length.val)⌉₊ ∧
      n.speed = fdiv
        (fadd s.asm.cfg.freqTable[n.pitchClass]
          (fofInt ((s.asm.song.inst[i].voiceId.toNat : Int) - 1000)))
        (fofInt s.asm.cfg.sampleRate)

/-- WAVE_ENTRY w sets `wave[w][j]` to exactly `s/128` of byte j, for every j, and changes nothing
else (R220). -/
def Obligations.WaveEntryDividesBy128 : Prop :=
  ∀ (w : Fin 100) (b : Vector Byte 256) (s : State),
    ∃ t, exec (.waveEntry w b) s = .next t ∧
      t = { s with asm := { s.asm with wave := t.asm.wave, raised := none } } ∧
      (∀ v : Fin 100, v ≠ w → t.asm.wave[v] = s.asm.wave[v]) ∧
      ∀ j : Fin 256, fIsFinite t.asm.wave[w][j] = true ∧
        fValue t.asm.wave[w][j] =
          ((if b[j].toNat < 0x80 then (b[j].toNat : Int) else (b[j].toNat : Int) - 256) : ℚ) / 128

/-- DRUM_SAMPLE appends the binary64 nearest `s/32767`, twice, and changes nothing else (R222). -/
def Obligations.DrumSampleIsStoredTwice : Prop :=
  ∀ (x : BitVec 16) (s : State),
    ∃ t v, exec (.drumSample x) s = .next t ∧
      t = { s with asm := { s.asm with d := s.asm.d ++ [v, v], raised := none } } ∧
      Nearest v ((x.toInt : ℝ) / 32767)

/-- `T(b)` is the least sample position at or after `B(b)`: `p ≥ T(b)` exactly when `p ≥ B(b)`.
B is linear, and at 44100 Hz an integer exactly when b·waitMs is a multiple of 10. T is
non-decreasing, so that a note's window is never empty, and fits 64 bits (R175, R180). -/
def Obligations.BeatTimesAreCeilings : Prop :=
  ∀ (cfg : Cfg) (waitMs : Byte) (b : Nat),
    beatToSample cfg waitMs b = ⌈exactTime cfg waitMs b⌉₊ ∧
    (∀ p : Nat, beatToSample cfg waitMs b ≤ p ↔ exactTime cfg waitMs b ≤ (p : ℚ)) ∧
    exactTime cfg waitMs 0 = 0 ∧ exactTime cfg waitMs (2 * b) = 2 * exactTime cfg waitMs b ∧
    (∀ l : Nat, beatToSample cfg waitMs b ≤ beatToSample cfg waitMs (b + l)) ∧
    (cfg.sampleRate < 2 ^ 32 → b < 2 ^ 32 + 255 → beatToSample cfg waitMs b < 2 ^ 64) ∧
    (cfg.sampleRate = 44100 →
      ((∃ k : Nat, exactTime cfg waitMs b = (k : ℚ)) ↔ b * waitMs.toNat % 10 = 0))

/-- Under a legal configuration every note's speed is finite (R184). -/
def Obligations.NoteSpeedIsFinite : Prop :=
  ∀ (cfg : Cfg) (voiceId : BitVec 16) (pitch : Level), cfgLegal cfg = true →
    fIsFinite (noteSpeed cfg voiceId pitch) = true

/-! ### Parsing and the banks -/

/-- The sort is ascending by startSample and keeps records with equal startSample in file order
(R21, R185). -/
def Obligations.NoteSortIsStable : Prop :=
  ∀ ns : List Note,
    (sortNotes ns).Perm ns ∧
    (sortNotes ns).Pairwise (fun m n => m.startSample ≤ n.startSample) ∧
    ∀ k : Nat, (sortNotes ns).filter (fun n => decide (n.startSample = k)) =
      ns.filter (fun n => decide (n.startSample = k))

/-- Parsing a song laid out by R110, with any bytes after it, gives its header registers, its
instruments, and each instrument's notes decoded in file order from zeroed accumulators and then
sorted (R170, R177, R187). -/
def Obligations.ParseOfAssembledSong : Prop :=
  ∀ (cfg : Cfg) (h : SongHeaderRec) (insts : Vector InstrumentRec 16)
    (streams : Vector (List NoteRec) 16) (tail : List Byte),
    magicOk cfg h.magic = true →
    (∀ i : Fin 16, insts[i].noteCount.toNat = streams[i].length) →
    ∃ song, parse cfg (assemble h insts streams ++ tail) = .ok song ∧
      song.waitMs = h.waitMs ∧ song.timeSig = (h.timeSig0, h.timeSig1) ∧
      song.songStartSample = beatToSample cfg h.waitMs h.startBeat.toNat ∧
      song.songEndSample = beatToSample cfg h.waitMs h.endBeat.toNat ∧
      ∀ i : Fin 16, song.inst[i] = {
        voiceId := insts[i].voiceId
        instrumentIndex := insts[i].instrumentIndex
        shortNoteFlag := flagOf insts[i].shortNoteByte
        noteCount := insts[i].noteCount
        notes := sortNotes (streamNotes cfg h.waitMs insts[i].voiceId Prev.zero streams[i]) }

/-- The melodic bank is decoded from the first 25600 bytes of any longer input, sample j of entry w
from the single signed byte at 256·w + j, and a shorter input is TruncatedInput (R88, R221). -/
def Obligations.WaveBankLayout : Prop :=
  ∀ bs : List Byte,
    (bs.length < 25600 → decodeWaveBank bs = .error .truncatedInput) ∧
    (25600 ≤ bs.length → ∃ bank, decodeWaveBank bs = .ok bank ∧
      ∀ (w : Fin 100) (j : Fin 256), bank[w][j] = waveSample (byteAt bs (256 * w.val + j.val)))

/-- A drum buffer of even length decodes to as many entries as it has bytes, entries 2k and 2k + 1
both from the big-endian pair at 2k; one of odd length is TruncatedInput. The bank holds one
sequence for each buffer, sequence k decoded from buffer k, and one odd buffer fails it (R222–R224).
-/
def Obligations.DrumBufferLayout : Prop :=
  (∀ bs : List Byte,
    (bs.length % 2 = 1 → decodeDrum bs = .error .truncatedInput) ∧
    (bs.length % 2 = 0 → ∃ d, decodeDrum bs = .ok d ∧ d.length = bs.length ∧
      ∀ k : Nat, 2 * k + 1 < bs.length →
        d[2 * k]? = some (drumValue (byteAt bs (2 * k) ++ byteAt bs (2 * k + 1))) ∧
        d[2 * k + 1]? = some (drumValue (byteAt bs (2 * k) ++ byteAt bs (2 * k + 1))))) ∧
  (∀ bufs : List (List Byte),
    ((∃ buf ∈ bufs, buf.length % 2 = 1) → decodeDrums bufs = .error .truncatedInput) ∧
    ((∀ buf ∈ bufs, buf.length % 2 = 0) → ∃ bank, decodeDrums bufs = .ok bank ∧
      bank.length = bufs.length ∧
      ∀ (k : Nat) (buf : List Byte), bufs[k]? = some buf →
        ∃ d, bank[k]? = some d ∧ decodeDrum buf = .ok d))

/-! ### CONSTRUCT -/

/-- A CONSTRUCT whose stages succeed commits every component at once, with the channels and p at
zero and the mode CONSTRUCTED, and answers Ok(songStartSample, songEndSample) (R240, R351). -/
def Obligations.ConstructCommitsEverything : Prop :=
  ∀ (cfg : Cfg) (songIn waveIn : List Byte) (drumIn : List (List Byte)) (s : State)
    (song : Song) (wave : WaveBank) (drum : List (List F64)),
    cfgLegal cfg = true → drumIn.length = cfg.numDrums →
    parse cfg songIn = .ok song → decodeWaveBank waveIn = .ok wave →
    decodeDrums drumIn = .ok drum → validSong cfg song = true →
      ∃ t, exec (.construct cfg songIn waveIn drumIn) s = .next t ∧
        t = { s with
          mode := .constructed, cfg := cfg, song := song, wave := wave, drum := drum,
          ch := t.ch, p := 0
          result := .constructed song.songStartSample song.songEndSample } ∧
        ∀ c : Fin 16, t.ch[c] = ⟨0, 0x0000000000000000#64, 0⟩

/-- When a stage of CONSTRUCT raises an error, CONSTRUCT returns Err(code) of the first stage that
does and changes no state of the block: only the answer differs (R315). -/
def Obligations.FailedConstructChangesNothing : Prop :=
  ∀ (cfg : Cfg) (songIn waveIn : List Byte) (drumIn : List (List Byte)) (s : State) (e : Err),
    cfgLegal cfg = true → drumIn.length = cfg.numDrums →
    (parse cfg songIn = .error e →
      exec (.construct cfg songIn waveIn drumIn) s = .next { s with result := .failed e }) ∧
    (∀ song, parse cfg songIn = .ok song → decodeWaveBank waveIn = .error e →
      exec (.construct cfg songIn waveIn drumIn) s = .next { s with result := .failed e }) ∧
    (∀ song wave, parse cfg songIn = .ok song → decodeWaveBank waveIn = .ok wave →
      decodeDrums drumIn = .error e →
      exec (.construct cfg songIn waveIn drumIn) s = .next { s with result := .failed e }) ∧
    (∀ song wave drum, parse cfg songIn = .ok song → decodeWaveBank waveIn = .ok wave →
      decodeDrums drumIn = .ok drum → validSong cfg song = false →
      exec (.construct cfg songIn waveIn drumIn) s =
        .next { s with result := .failed .invalidIndex })

/-- A CONSTRUCT inside the interface always completes, and which error it reports, if any, follows
from the lengths of its inputs, the magic and the index checks, in the precedence of R314
(R311–R314); the error codes are 1, 2 and 3. -/
def Obligations.ConstructOutcomeByPrecedence : Prop :=
  Err.truncatedInput.code = 1 ∧ Err.invalidFormat.code = 2 ∧ Err.invalidIndex.code = 3 ∧
  ∀ (cfg : Cfg) (songIn waveIn : List Byte) (drumIn : List (List Byte)) (s : State),
    cfgLegal cfg = true → drumIn.length = cfg.numDrums →
    ∃ t, exec (.construct cfg songIn waveIn drumIn) s = .next t ∧
      match earlyError cfg songIn waveIn drumIn with
      | some e => t.result = .failed e
      | none => ∃ song, parse cfg songIn = .ok song ∧
          t.result = if validSong cfg song
            then .constructed song.songStartSample song.songEndSample else .failed .invalidIndex

/-- The refusals of R326: PRODUCE while UNCONSTRUCTED, CONSTRUCT with an illegal configuration,
CONSTRUCT with a number of drum buffers other than NUM_DRUMS. That a SAMPLE_RATE of 2^32 or more is
illegal is the model's reading of "fits u32" (log 20). -/
def Obligations.RequestsOutsideTheInterfaceAreRefused : Prop :=
  (∀ (n : BitVec 32) (s : State), s.mode = .unconstructed →
    exec (.produce n) s = .refused .notConstructed) ∧
  (∀ (cfg : Cfg) (songIn waveIn : List Byte) (drumIn : List (List Byte)) (s : State),
    ¬(1 ≤ cfg.sampleRate ∧ cfg.sampleRate < 2 ^ 32 ∧
      (∀ k : Fin 12, fIsFinite cfg.freqTable[k] = true) ∧
      (∀ o : Fin 8, fIsFinite cfg.octRepeat[o] = true ∧ fIsZero cfg.octRepeat[o] = false) ∧
      (∀ o : Fin 8, fIsFinite cfg.octAdvance[o] = true) ∧ cfg.numDrums ≤ 256) →
    exec (.construct cfg songIn waveIn drumIn) s = .refused .illegalConfig) ∧
  (∀ (cfg : Cfg) (songIn waveIn : List Byte) (drumIn : List (List Byte)) (s : State),
    cfgLegal cfg = true → drumIn.length ≠ cfg.numDrums →
    exec (.construct cfg songIn waveIn drumIn) s = .refused .drumCount)

/-- VALIDATE raises InvalidIndex exactly in the cases (a), (b) and (c) of R241, and a CONSTRUCT that
reaches stage 4 reports InvalidIndex exactly then. -/
def Obligations.ValidateRejectsExactlyTheListedIndices : Prop :=
  ∀ (cfg : Cfg) (songIn waveIn : List Byte) (drumIn : List (List Byte)) (s : State)
    (song : Song) (wave : WaveBank) (drum : List (List F64)),
    cfgLegal cfg = true → drumIn.length = cfg.numDrums →
    parse cfg songIn = .ok song → decodeWaveBank waveIn = .ok wave →
    decodeDrums drumIn = .ok drum →
      ∃ t, exec (.construct cfg songIn waveIn drumIn) s = .next t ∧
        (t.result = .failed .invalidIndex ↔
          ((∃ c : Fin 16, c.val < 8 ∧ 0 < song.inst[c].noteCount.toNat ∧
              100 ≤ song.inst[c].instrumentIndex.toNat) ∨
           (∃ c : Fin 16, c.val < 8 ∧ ∃ n ∈ song.inst[c].notes, 96 ≤ n.pitch.val) ∨
           (cfg.percMode = .stream ∧ ∃ c : Fin 16, 8 ≤ c.val ∧
              0 < song.inst[c].noteCount.toNat ∧
              cfg.numDrums ≤ song.inst[c].instrumentIndex.toNat)))

/-! ### PRODUCE and STEP -/

/-- PRODUCE(a) followed by PRODUCE(b) returns the same frames, and leaves the same state, as
PRODUCE(a + b); and both parts complete where PRODUCE(a + b) does (R267, R363). -/
def Obligations.ProduceSplitsAnywhere : Prop :=
  ∀ (a b : BitVec 32) (s : State), a.toNat + b.toNat < 2 ^ 32 →
    (∀ t u : State, exec (.produce a) s = .next t → exec (.produce b) t = .next u →
      ∃ fs gs, t.result = .frames fs ∧ u.result = .frames gs ∧
        exec (.produce (a + b)) s = .next { u with result := .frames (fs ++ gs) }) ∧
    (∀ v : State, exec (.produce (a + b)) s = .next v →
      ∃ t u, exec (.produce a) s = .next t ∧ exec (.produce b) t = .next u)

/-- PRODUCE(n) returns n frames, advances p by n and leaves the mode, the configuration, the song
and the banks as they were. PRODUCE(0) changes nothing but the answer. PRODUCE(1) is one STEP and
returns its frame, and a STEP that faults ends every PRODUCE of one frame or more
(R242, R243, R261). -/
def Obligations.ProduceReturnsItsFrames : Prop :=
  (∀ (n : BitVec 32) (s t : State), exec (.produce n) s = .next t →
    (∃ fs, t.result = .frames fs ∧ fs.length = n.toNat) ∧ t.p = s.p + n.toNat ∧
    t = { s with ch := t.ch, p := t.p, contrib := t.contrib, frame := t.frame,
                 result := t.result }) ∧
  (∀ s : State, s.mode = .constructed →
    exec (.produce 0#32) s = .next { s with result := .frames [] }) ∧
  (∀ s t : State, s.mode = .constructed → exec .step s = .next t →
    exec (.produce 1#32) s = .next { t with result := .frames [t.frame] }) ∧
  (∀ (n : BitVec 32) (s : State) (r : Fault), s.mode = .constructed → n ≠ 0#32 →
    exec .step s = .fault r → exec (.produce n) s = .fault r)

/-- PRODUCE(n) completes for every n from a constructed state that meets the invariant, where
speeds, offsets and octave tables are bounded so that no read position can overflow (R269; the
bounds are a sufficient condition in the manner of I5). -/
def Obligations.ProduceCompletes : Prop :=
  ∀ (n : BitVec 32) (s : State), s.mode = .constructed → s.Inv → s.Tame →
    ∃ t fs, exec (.produce n) s = .next t ∧ t.result = .frames fs ∧ fs.length = n.toNat ∧
      t.p = s.p + n.toNat

/-- Once no channel that plays has a note left, PRODUCE keeps returning (+0.0, +0.0) frames and
leaves the channel registers as they are. Under SILENT a percussion channel does not play, whatever
notes it has (R242, R257, R269). -/
def Obligations.SilenceAfterTheLastNote : Prop :=
  ∀ (n : BitVec 32) (s : State), s.mode = .constructed →
    (∀ c : Fin 16, (c.val < 8 ∨ s.cfg.percMode = .stream) →
      s.song.inst[c].noteCount.toNat ≤ s.ch[c].noteIndex) →
    ∃ t, exec (.produce n) s = .next t ∧
      t.result = .frames (List.replicate n.toNat ⟨0x00000000#32, 0x00000000#32⟩) ∧
      t.ch = s.ch ∧ t.p = s.p + n.toNat

/-- A STEP is its operations run one at a time: the voice of every channel in order, MIX_CLAMP, and
then p + 1; and where a voice faults, the STEP faults alike (R243, R244, R261). That the operations
can be queued as requests of their own is the model's choice (logs 1 and 2). -/
def Obligations.StepIsItsOperations : Prop :=
  (∀ s t : State, exec .step s = .next t →
    ∃ u, runSteps 17 { s with pending := stepProgram s.cfg.percMode ++ s.pending } = .next u ∧
      t = { u with p := u.p + 1 }) ∧
  (∀ (s : State) (r : Fault), exec .step s = .fault r →
    runSteps 17 { s with pending := stepProgram s.cfg.percMode ++ s.pending } = .fault r)

/-- STEP completes from every state that meets the invariant and whose melodic read positions are
finite. It advances p by one and writes only the channels, the contributions, the frame and p
(R48, R243, R261, R269). -/
def Obligations.StepCompletes : Prop :=
  ∀ s : State, s.Inv → s.PositionsFinite →
    ∃ t, exec .step s = .next t ∧
      t = { s with ch := t.ch, p := s.p + 1, contrib := t.contrib, frame := t.frame }

/-! ### Voices -/

/-- A melodic channel with no current note, or one that has not started, contributes silence and
keeps its registers (R245). -/
def Obligations.MelodicVoiceWaits : Prop :=
  ∀ (c : Fin 16) (s : State), c.val < 8 → Waiting s c →
    exec (.melodicVoice c) s = .next (voiced s c ⟨0x0000000000000000#64, 0x0000000000000000#64⟩ s.ch[c])

/-- A melodic channel whose note sounds: the read position, the sample, the gains, the phase
advance, the sample count, and the note's end in the same operation (R246–R255). -/
def Obligations.MelodicVoiceSounds : Prop :=
  ∀ (c : Fin 16) (s : State) (n : Note) (octave : Fin 8) (w : Fin 100) (j : Fin 256) (pos : F64),
    c.val < 8 → Sounding s c n →
    (s.song.inst[c].shortNoteFlag = false ∨ s.ch[c].samplesPlayed ≤ 256) →
    octave.val = n.pitch.val / 12 → w.val = s.song.inst[c].instrumentIndex.toNat →
    pos = ffloor (fmul (fdiv (ffloor s.ch[c].wavetableOffset) s.cfg.octRepeat[octave])
      s.cfg.octAdvance[octave]) →
    fIsFinite pos = true → (j.val : Int) = ⌊fValue pos⌋ % 256 →
      exec (.melodicVoice c) s = .next (voiced s c (gained s n s.wave[w][j])
        (afterNote s.p n ⟨s.ch[c].noteIndex, fadd s.ch[c].wavetableOffset n.speed,
          s.ch[c].samplesPlayed + 1⟩))

/-- With the short-note flag set and samplesPlayed above 256 the gate is closed: silence, the
registers kept, and the note still ends at its endSample (R247). -/
def Obligations.ShortNoteGateCloses : Prop :=
  ∀ (c : Fin 16) (s : State) (n : Note), c.val < 8 → Sounding s c n →
    s.song.inst[c].shortNoteFlag = true → 256 < s.ch[c].samplesPlayed →
      exec (.melodicVoice c) s = .next (voiced s c ⟨0x0000000000000000#64, 0x0000000000000000#64⟩
        (afterNote s.p n s.ch[c]))

/-- A read position that is not finite is the model fault NonFinitePosition; PRODUCE and STEP stop
with it, whatever the other channels do (R250, R318). -/
def Obligations.NonFinitePositionFaults : Prop :=
  ∀ (c : Fin 16) (s : State) (n : Note) (octave : Fin 8), c.val < 8 → Sounding s c n →
    (s.song.inst[c].shortNoteFlag = false ∨ s.ch[c].samplesPlayed ≤ 256) →
    octave.val = n.pitch.val / 12 →
    fIsFinite (ffloor (fmul (fdiv (ffloor s.ch[c].wavetableOffset) s.cfg.octRepeat[octave])
      s.cfg.octAdvance[octave])) = false →
      exec (.melodicVoice c) s = .fault .nonFinitePosition ∧
      exec .step s = .fault .nonFinitePosition ∧
      ∀ k : BitVec 32, k ≠ 0#32 → s.mode = .constructed →
        exec (.produce k) s = .fault .nonFinitePosition

/-- Under STREAM a percussion channel streams its drum buffer at samplesPlayed, is silent once it is
exhausted, ends its note at endSample, and waits before its start (R256). Under SILENT, where the
spec does not give PERC_VOICE_STREAM, a request of it is silent and writes no register, as R225 and
R257 say of the channel (log 2). -/
def Obligations.PercVoiceStreams : Prop :=
  ∀ (c : Fin 16) (s : State), 8 ≤ c.val →
    (s.cfg.percMode = .stream →
      (Waiting s c → exec (.percVoiceStream c) s =
        .next (voiced s c ⟨0x0000000000000000#64, 0x0000000000000000#64⟩ s.ch[c])) ∧
      (∀ (n : Note) (d : List F64), Sounding s c n →
        s.drum[s.song.inst[c].instrumentIndex.toNat]? = some d →
        (∀ x, d[s.ch[c].samplesPlayed]? = some x →
          exec (.percVoiceStream c) s = .next (voiced s c (gained s n x)
            (afterNote s.p n ⟨s.ch[c].noteIndex, s.ch[c].wavetableOffset,
              s.ch[c].samplesPlayed + 1⟩))) ∧
        (d.length ≤ s.ch[c].samplesPlayed →
          exec (.percVoiceStream c) s =
            .next (voiced s c ⟨0x0000000000000000#64, 0x0000000000000000#64⟩
              (afterNote s.p n s.ch[c]))))) ∧
    (s.cfg.percMode = .silent →
      exec (.percVoiceStream c) s = .next { s with
        contrib := s.contrib.set c ⟨0x0000000000000000#64, 0x0000000000000000#64⟩ })

/-- A silent percussion voice returns (+0.0, +0.0) and writes no channel register; R257 says so
under SILENT, and that a request under STREAM does the same is the model's choice (log 2). Under
SILENT, STEP and PRODUCE keep the registers of every percussion channel, and STEP gives it silence
(R257). -/
def Obligations.PercVoiceIsSilent : Prop :=
  ∀ (c : Fin 16) (s : State), 8 ≤ c.val →
    exec (.percVoiceSilent c) s = .next { s with
      contrib := s.contrib.set c ⟨0x0000000000000000#64, 0x0000000000000000#64⟩ } ∧
    (s.cfg.percMode = .silent →
      (∀ t, exec .step s = .next t → t.ch[c] = s.ch[c] ∧
        t.contrib[c] = ⟨0x0000000000000000#64, 0x0000000000000000#64⟩) ∧
      (∀ (n : BitVec 32) (t : State), exec (.produce n) s = .next t → t.ch[c] = s.ch[c]))

/-- When a voice operation stops. On a channel of the other kind it is refused, which is the model's
own (log 2). On its own kind PERC_VOICE_STREAM always completes, and MELODIC_VOICE faults exactly
where it produces a tone from a read position that is not finite (R250). -/
def Obligations.VoiceStopsByName : Prop :=
  (∀ (c : Fin 16) (s : State),
    (8 ≤ c.val → exec (.melodicVoice c) s = .refused .channelKind) ∧
    (c.val < 8 → exec (.percVoiceStream c) s = .refused .channelKind ∧
      exec (.percVoiceSilent c) s = .refused .channelKind)) ∧
  (∀ (c : Fin 16) (s : State), 8 ≤ c.val → ∃ t, exec (.percVoiceStream c) s = .next t) ∧
  (∀ (c : Fin 16) (s : State), c.val < 8 →
    (s.PositionFinite c → ∃ t, exec (.melodicVoice c) s = .next t) ∧
    (¬s.PositionFinite c → exec (.melodicVoice c) s = .fault .nonFinitePosition))

/-- A voice operation writes its own channel only, and no store, configuration or p (R39, R48). -/
def Obligations.VoicesWriteTheirOwnChannelOnly : Prop :=
  ∀ (c : Fin 16) (i : Instr) (s t : State),
    (i = .melodicVoice c ∨ i = .percVoiceStream c ∨ i = .percVoiceSilent c) →
    exec i s = .next t →
      t = { s with ch := t.ch, contrib := t.contrib } ∧
      (∀ d : Fin 16, d ≠ c → t.ch[d] = s.ch[d] ∧ t.contrib[d] = s.contrib[d]) ∧
      s.ch[c].noteIndex ≤ t.ch[c].noteIndex ∧ t.ch[c].noteIndex ≤ s.ch[c].noteIndex + 1

/-- noteIndex never decreases, grows by at most one per STEP, and stays within 0..noteCount
(R40, R263). -/
def Obligations.NoteIndexOnlyAdvances : Prop :=
  ∀ (s t : State) (c : Fin 16), exec .step s = .next t →
    s.ch[c].noteIndex ≤ t.ch[c].noteIndex ∧ t.ch[c].noteIndex ≤ s.ch[c].noteIndex + 1 ∧
    (s.ch[c].noteIndex ≤ s.song.inst[c].noteCount.toNat →
      t.ch[c].noteIndex ≤ t.song.inst[c].noteCount.toNat)

/-- A channel follows one note at a time: a note that is current at position p stays current
through the STEP at max(p, endSample), and the next one becomes current in the STEP after it
(R255, R264). -/
def Obligations.NotesArePlayedInSequence : Prop :=
  ∀ (s t : State) (c : Fin 16) (n : Note) (m : Nat), s.Inv →
    (c.val < 8 ∨ s.cfg.percMode = .stream) →
    s.ch[c].noteIndex < s.song.inst[c].noteCount.toNat →
    s.song.inst[c].notes[s.ch[c].noteIndex]? = some n →
    framesOn m s = .ok t →
      (m ≤ max s.p n.endSample - s.p → t.ch[c].noteIndex = s.ch[c].noteIndex) ∧
      (m = max s.p n.endSample - s.p + 1 →
        t.ch[c] = ⟨s.ch[c].noteIndex + 1, 0x0000000000000000#64, 0⟩)

/-! ### The mixer -/

/-- MIX_CLAMP sums each lane in ascending channel order from +0.0, clamps the sum and rounds it to
binary32; it writes the frame and nothing else (R258–R260). -/
def Obligations.MixClampSumsInOrder : Prop :=
  ∀ s : State, exec .mixClamp s = .next { s with frame :=
    ⟨rn32 (clamp ((s.contrib.toList.map Contribution.left).foldl fadd 0x0000000000000000#64)),
     rn32 (clamp ((s.contrib.toList.map Contribution.right).foldl fadd 0x0000000000000000#64))⟩ }

/-- On a finite sum the clamp is 1.0 above 1, −1.0 below −1, and the sum itself in between; rounded
to binary32 it is finite and lies in [−1, 1] (R259, R260). -/
def Obligations.LimiterRange : Prop :=
  ∀ x : F64, fIsFinite x = true →
    (1 < fValue x → clamp x = 0x3ff0000000000000#64) ∧
    (fValue x < -1 → clamp x = 0xbff0000000000000#64) ∧
    (-1 ≤ fValue x → fValue x ≤ 1 → clamp x = x) ∧
    f32IsFinite (rn32 (clamp x)) = true ∧
    -1 ≤ f32Value (rn32 (clamp x)) ∧ f32Value (rn32 (clamp x)) ≤ 1

/-- No lane's sum is ever −0.0: the sign of an exact zero sum is IEEE 754's, which R258 marks "from
general knowledge, not in source" (log 5). -/
def Obligations.MixSumIsNeverNegativeZero : Prop :=
  ∀ s : State,
    mixLane Contribution.left s.contrib ≠ 0x8000000000000000#64 ∧
    mixLane Contribution.right s.contrib ≠ 0x8000000000000000#64

/-- From every state that meets the invariant, a STEP that completes leaves contributions that are
finite and at most 32768/32767 + 2^−52 in size, and a frame whose components are finite and lie
in [−1.0, 1.0]; so does every frame that PRODUCE returns (R262, R268). -/
def Obligations.FramesLieInRange : Prop :=
  (∀ s t : State, s.Inv → exec .step s = .next t →
    (∀ c : Fin 16,
      fIsFinite t.contrib[c].left = true ∧ fIsFinite t.contrib[c].right = true ∧
      |fValue t.contrib[c].left| ≤ 32768 / 32767 + 1 / 2 ^ 52 ∧
      |fValue t.contrib[c].right| ≤ 32768 / 32767 + 1 / 2 ^ 52) ∧
    f32IsFinite t.frame.left = true ∧ f32IsFinite t.frame.right = true ∧
    |f32Value t.frame.left| ≤ 1 ∧ |f32Value t.frame.right| ≤ 1) ∧
  (∀ (n : BitVec 32) (s t : State) (fs : List Frame), s.Inv →
    exec (.produce n) s = .next t → t.result = .frames fs →
    ∀ f ∈ fs, f32IsFinite f.left = true ∧ f32IsFinite f.right = true ∧
      |f32Value f.left| ≤ 1 ∧ |f32Value f.right| ≤ 1)

/-! ### Arithmetic and gains -/

/-- RN64 of a rational gives a binary64 that no other is nearer than, and on a tie the even one;
RN32 of a binary64 gives such a binary32. Both are said of results that do not overflow (R20). -/
def Obligations.RoundingIsToNearestEven : Prop :=
  (∀ (neg : Bool) (num den : Nat), 0 < den → fIsFinite (rn64 neg num den) = true →
    RoundedTo (rn64 neg num den) ((if neg then -1 else 1) * ((num : ℚ) / den))) ∧
  (∀ x : F64, fIsFinite x = true → f32IsFinite (rn32 x) = true →
    RoundedTo32 (rn32 x) (fValue x))

/-- Every VOL_GAIN entry is the binary64 nearest `10^(v/254 − 1)`, the table is strictly increasing,
entry 0 is the binary64 nearest 0.1 and entry 254 is 1.0 (R248). -/
def Obligations.VolGainIsCorrectlyRounded : Prop :=
  (∀ v : Level, Nearest (volGain v) ((10 : ℝ) ^ ((v.val : ℝ) / 254 - 1))) ∧
  (∀ v w : Level, v < w → fValue (volGain v) < fValue (volGain w)) ∧
  Nearest (volGain 0) (1 / 10 : ℝ) ∧ volGain 254 = 0x3ff0000000000000#64

/-- The pan gains of R249. Under UNITY both are 1.0. Under CONSTANT_POWER every entry is the
binary64 nearest the formula in θ, which is the nearest to the cosine and the sine of pan·π/508;
with the values at −45°, 0° and +45°, and every gain in [0, 1]. -/
def Obligations.PanGainFacts : Prop :=
  (∀ pan : Level, panLeft .unity pan = fOne ∧ panRight .unity pan = fOne) ∧
  (∀ pan : Level,
    Nearest (panLeft .constantPower pan)
      (Real.sqrt 2 / 2 * (Real.cos (panAngle pan) - Real.sin (panAngle pan))) ∧
    Nearest (panRight .constantPower pan)
      (Real.sqrt 2 / 2 * (Real.cos (panAngle pan) + Real.sin (panAngle pan))) ∧
    Nearest (panLeft .constantPower pan) (Real.cos ((pan.val : ℝ) * Real.pi / 508)) ∧
    Nearest (panRight .constantPower pan) (Real.sin ((pan.val : ℝ) * Real.pi / 508))) ∧
  panLeft .constantPower 0 = 0x3ff0000000000000#64 ∧
  panRight .constantPower 0 = 0x0000000000000000#64 ∧
  panLeft .constantPower 127 = 0x3fe6a09e667f3bcd#64 ∧
  panRight .constantPower 127 = 0x3fe6a09e667f3bcd#64 ∧
  panLeft .constantPower 254 = 0x0000000000000000#64 ∧
  panRight .constantPower 254 = 0x3ff0000000000000#64 ∧
  (∀ (law : PanLaw) (pan : Level),
    0 ≤ fValue (panLeft law pan) ∧ fValue (panLeft law pan) ≤ 1 ∧
    0 ≤ fValue (panRight law pan) ∧ fValue (panRight law pan) ≤ 1) ∧
  (∀ a b : Level, a.val + b.val = 254 →
    panLeft .constantPower a = panRight .constantPower b) ∧
  (∀ pan : Level,
    |fValue (panLeft .constantPower pan) ^ 2 + fValue (panRight .constantPower pan) ^ 2 - 1| ≤
      1 / 2 ^ 51)

/-! ### The machine as a whole -/

/-- At power-on the block is UNCONSTRUCTED (R350); the other values are the model's (log 3, log 4):
p and the channel registers are zero, nothing is pending, nothing has been answered. -/
def Obligations.ResetIsUnconstructed : Prop :=
  State.reset.mode = .unconstructed ∧ State.reset.p = 0 ∧
  (∀ c : Fin 16, State.reset.ch[c] = ⟨0, 0x0000000000000000#64, 0⟩ ∧
    State.reset.song.inst[c].notes = []) ∧
  State.reset.drum = [] ∧ State.reset.pending = [] ∧ State.reset.result = .nothing

/-- The invariant holds at power-on. -/
def Obligations.InvariantAtReset : Prop := State.reset.Inv

/-- Every step keeps the invariant, from every state that meets it. -/
def Obligations.EveryStepKeepsTheInvariant : Prop :=
  ∀ s t : State, s.Inv → step s = .next t → t.Inv

/-- In a state that meets the invariant, every read that a voice makes is inside its store (R83): a sounding melodic channel reads the octave tables and the bank at entries
they have, and a streaming percussion channel reads a sequence of the drum bank. -/
def Obligations.NoReadOutsideTheStores : Prop :=
  ∀ (s : State) (c : Fin 16) (n : Note), s.Inv → Sounding s c n →
    (c.val < 8 → ∃ (octave : Fin 8) (w : Fin 100),
      octave.val = n.pitch.val / 12 ∧ w.val = s.song.inst[c].instrumentIndex.toNat ∧
      (∀ offset : F64, readPosition s.cfg n.octave offset =
        ffloor (fmul (fdiv (ffloor offset) s.cfg.octRepeat[octave]) s.cfg.octAdvance[octave])) ∧
      ∀ j : Fin 256, waveAt s.wave s.song.inst[c].instrumentIndex j = s.wave[w][j]) ∧
    (8 ≤ c.val → s.cfg.percMode = .stream →
      ∃ d, s.drum[s.song.inst[c].instrumentIndex.toNat]? = some d ∧
        drumAt s.drum s.song.inst[c].instrumentIndex = d)

/-- Only CONSTRUCT writes the mode, the configuration, the song store and the banks (R31, R32, R83,
R98), and only CONSTRUCT, STEP and PRODUCE write p (R43). -/
def Obligations.OnlyConstructWritesTheStores : Prop :=
  ∀ (i : Instr) (s t : State), exec i s = .next t →
    ((∀ cfg a b d, i ≠ .construct cfg a b d) →
      t.mode = s.mode ∧ t.cfg = s.cfg ∧ t.song = s.song ∧ t.wave = s.wave ∧ t.drum = s.drum) ∧
    ((∀ cfg a b d, i ≠ .construct cfg a b d) → i ≠ .step → (∀ n, i ≠ .produce n) → t.p = s.p)

/-! ### Arithmetic on operands, and what the samples and the drum bank can change -/

/-- The binary64 operations round the exact sum, difference, product and quotient of finite operands
once, to nearest and on a tie to even, where the result does not overflow; an integer operand is
converted exactly up to 2^53; floor64 is the exact floor (R20). -/
def Obligations.ArithmeticIsCorrectlyRounded : Prop :=
  (∀ a b : F64, fIsFinite a = true → fIsFinite b = true →
    (fIsFinite (fadd a b) = true → RoundedTo (fadd a b) (fValue a + fValue b)) ∧
    (fIsFinite (fsub a b) = true → RoundedTo (fsub a b) (fValue a - fValue b)) ∧
    (fIsFinite (fmul a b) = true → RoundedTo (fmul a b) (fValue a * fValue b)) ∧
    (fIsZero b = false → fIsFinite (fdiv a b) = true →
      RoundedTo (fdiv a b) (fValue a / fValue b))) ∧
  (∀ z : Int, z.natAbs ≤ 2 ^ 53 → fIsFinite (fofInt z) = true ∧ fValue (fofInt z) = (z : ℚ)) ∧
  (∀ x : F64, fIsFinite x = true →
    fIsFinite (ffloor x) = true ∧ fValue (ffloor x) = (⌊fValue x⌋ : ℚ))

/-- A result of RN64 or RN32 overflows to the infinity of its sign exactly from the middle between
the largest finite value and the next power of two on. R20 names IEEE 754, which says so; the model takes it from
there (PRESUMED, log 5). -/
def Obligations.OverflowIsInfinity : Prop :=
  (∀ (neg : Bool) (num den : Nat), 0 < den →
    (fIsFinite (rn64 neg num den) = true ↔ (num : ℚ) / den < 2 ^ 1024 - 2 ^ 970) ∧
    (fIsFinite (rn64 neg num den) = false →
      rn64 neg num den = if neg then 0xfff0000000000000#64 else 0x7ff0000000000000#64)) ∧
  (∀ x : F64, fIsFinite x = true →
    (f32IsFinite (rn32 x) = true ↔ |fValue x| < 2 ^ 128 - 2 ^ 103) ∧
    (f32IsFinite (rn32 x) = false →
      rn32 x = if fValue x < 0 then 0xff800000#32 else 0x7f800000#32))

/-- What the samples are never steers the sequencer: with any other waveform bank, and any other drum
bank whose sequences have the same lengths, every operation but CONSTRUCT has the same outcome and
leaves the same channel registers, the same p and the same everything else; only the contributions,
the frame and the frames returned can differ (R246, R250, R253–R256). -/
def Obligations.SamplesNeverSteerTheSequencer : Prop :=
  ∀ (i : Instr) (s : State) (wave : WaveBank) (drum : List (List F64)),
    (∀ cfg a b d, i ≠ .construct cfg a b d) →
    drum.map List.length = s.drum.map List.length →
      (∀ t, exec i s = .next t →
        ∃ u, exec i { s with wave := wave, drum := drum } = .next u ∧
          u = { t with
            wave := wave, drum := drum
            contrib := u.contrib, frame := u.frame, result := u.result }) ∧
      (∀ r, exec i s = .fault r → exec i { s with wave := wave, drum := drum } = .fault r) ∧
      (∀ r, exec i s = .refused r → exec i { s with wave := wave, drum := drum } = .refused r)

/-- The drum buffers are decoded, and an odd length fails CONSTRUCT, under both values of PERC_MODE;
under SILENT no operation reads the drum bank: with another bank every operation gives the same
outcome, but for the bank (R225). -/
def Obligations.SilentNeverReadsTheDrumBank : Prop :=
  (∀ (cfg : Cfg) (songIn waveIn : List Byte) (drumIn : List (List Byte)) (s : State)
    (song : Song) (wave : WaveBank), cfgLegal cfg = true → drumIn.length = cfg.numDrums →
    parse cfg songIn = .ok song → decodeWaveBank waveIn = .ok wave →
    (∃ buf ∈ drumIn, buf.length % 2 = 1) →
      exec (.construct cfg songIn waveIn drumIn) s =
        .next { s with result := .failed .truncatedInput }) ∧
  (∀ (cfg : Cfg) (songIn waveIn : List Byte) (drumIn : List (List Byte)) (s t : State)
    (a b : Nat), exec (.construct cfg songIn waveIn drumIn) s = .next t →
    t.result = .constructed a b → decodeDrums drumIn = .ok t.drum) ∧
  (∀ (i : Instr) (s : State) (bank : List (List F64)), s.cfg.percMode = .silent →
    (∀ t, exec i s = .next t →
      ∃ bank', exec i { s with drum := bank } = .next { t with drum := bank' }) ∧
    (∀ r, exec i s = .fault r → exec i { s with drum := bank } = .fault r) ∧
    (∀ r, exec i s = .refused r → exec i { s with drum := bank } = .refused r))
end

