-- ==== Sys2Proof/Laws/State.lean ====
section
/-! SUPPORT. What each update of State leaves in each field, so that no proof unfolds a record
update. -/

namespace Sys2Proof.Machine

variable (s : State)

/-! ### State.putAsm -/

@[simp] theorem State.putAsm_mode (a : Assembly) : (s.putAsm a).mode = s.mode := rfl
@[simp] theorem State.putAsm_cfg (a : Assembly) : (s.putAsm a).cfg = s.cfg := rfl
@[simp] theorem State.putAsm_song (a : Assembly) : (s.putAsm a).song = s.song := rfl
@[simp] theorem State.putAsm_wave (a : Assembly) : (s.putAsm a).wave = s.wave := rfl
@[simp] theorem State.putAsm_drum (a : Assembly) : (s.putAsm a).drum = s.drum := rfl
@[simp] theorem State.putAsm_ch (a : Assembly) : (s.putAsm a).ch = s.ch := rfl
@[simp] theorem State.putAsm_p (a : Assembly) : (s.putAsm a).p = s.p := rfl
@[simp] theorem State.putAsm_asm (a : Assembly) : (s.putAsm a).asm = a := rfl
@[simp] theorem State.putAsm_contrib (a : Assembly) : (s.putAsm a).contrib = s.contrib := rfl
@[simp] theorem State.putAsm_frame (a : Assembly) : (s.putAsm a).frame = s.frame := rfl
@[simp] theorem State.putAsm_result (a : Assembly) : (s.putAsm a).result = s.result := rfl
@[simp] theorem State.putAsm_pending (a : Assembly) : (s.putAsm a).pending = s.pending := rfl

/-! ### State.failWith -/

@[simp] theorem State.failWith_mode (e : Err) : (s.failWith e).mode = s.mode := rfl
@[simp] theorem State.failWith_cfg (e : Err) : (s.failWith e).cfg = s.cfg := rfl
@[simp] theorem State.failWith_song (e : Err) : (s.failWith e).song = s.song := rfl
@[simp] theorem State.failWith_wave (e : Err) : (s.failWith e).wave = s.wave := rfl
@[simp] theorem State.failWith_drum (e : Err) : (s.failWith e).drum = s.drum := rfl
@[simp] theorem State.failWith_ch (e : Err) : (s.failWith e).ch = s.ch := rfl
@[simp] theorem State.failWith_p (e : Err) : (s.failWith e).p = s.p := rfl
@[simp] theorem State.failWith_asm (e : Err) : (s.failWith e).asm = s.asm := rfl
@[simp] theorem State.failWith_contrib (e : Err) : (s.failWith e).contrib = s.contrib := rfl
@[simp] theorem State.failWith_frame (e : Err) : (s.failWith e).frame = s.frame := rfl
@[simp] theorem State.failWith_result (e : Err) : (s.failWith e).result = .failed e := rfl
@[simp] theorem State.failWith_pending (e : Err) : (s.failWith e).pending = s.pending := rfl

/-! ### State.putResult -/

@[simp] theorem State.putResult_mode (r : HostResult) : (s.putResult r).mode = s.mode := rfl
@[simp] theorem State.putResult_cfg (r : HostResult) : (s.putResult r).cfg = s.cfg := rfl
@[simp] theorem State.putResult_song (r : HostResult) : (s.putResult r).song = s.song := rfl
@[simp] theorem State.putResult_wave (r : HostResult) : (s.putResult r).wave = s.wave := rfl
@[simp] theorem State.putResult_drum (r : HostResult) : (s.putResult r).drum = s.drum := rfl
@[simp] theorem State.putResult_ch (r : HostResult) : (s.putResult r).ch = s.ch := rfl
@[simp] theorem State.putResult_p (r : HostResult) : (s.putResult r).p = s.p := rfl
@[simp] theorem State.putResult_asm (r : HostResult) : (s.putResult r).asm = s.asm := rfl
@[simp] theorem State.putResult_contrib (r : HostResult) : (s.putResult r).contrib = s.contrib := rfl
@[simp] theorem State.putResult_frame (r : HostResult) : (s.putResult r).frame = s.frame := rfl
@[simp] theorem State.putResult_result (r : HostResult) : (s.putResult r).result = r := rfl
@[simp] theorem State.putResult_pending (r : HostResult) : (s.putResult r).pending = s.pending := rfl

/-! ### State.putVoice -/

@[simp] theorem State.putVoice_mode (c : Fin 16) (out : Contribution) (ch : Channel) : (s.putVoice c out ch).mode = s.mode := rfl
@[simp] theorem State.putVoice_cfg (c : Fin 16) (out : Contribution) (ch : Channel) : (s.putVoice c out ch).cfg = s.cfg := rfl
@[simp] theorem State.putVoice_song (c : Fin 16) (out : Contribution) (ch : Channel) : (s.putVoice c out ch).song = s.song := rfl
@[simp] theorem State.putVoice_wave (c : Fin 16) (out : Contribution) (ch : Channel) : (s.putVoice c out ch).wave = s.wave := rfl
@[simp] theorem State.putVoice_drum (c : Fin 16) (out : Contribution) (ch : Channel) : (s.putVoice c out ch).drum = s.drum := rfl
@[simp] theorem State.putVoice_ch (c : Fin 16) (out : Contribution) (ch : Channel) : (s.putVoice c out ch).ch = s.ch.set c ch := rfl
@[simp] theorem State.putVoice_p (c : Fin 16) (out : Contribution) (ch : Channel) : (s.putVoice c out ch).p = s.p := rfl
@[simp] theorem State.putVoice_asm (c : Fin 16) (out : Contribution) (ch : Channel) : (s.putVoice c out ch).asm = s.asm := rfl
@[simp] theorem State.putVoice_contrib (c : Fin 16) (out : Contribution) (ch : Channel) : (s.putVoice c out ch).contrib = s.contrib.set c out := rfl
@[simp] theorem State.putVoice_frame (c : Fin 16) (out : Contribution) (ch : Channel) : (s.putVoice c out ch).frame = s.frame := rfl
@[simp] theorem State.putVoice_result (c : Fin 16) (out : Contribution) (ch : Channel) : (s.putVoice c out ch).result = s.result := rfl
@[simp] theorem State.putVoice_pending (c : Fin 16) (out : Contribution) (ch : Channel) : (s.putVoice c out ch).pending = s.pending := rfl

/-! ### State.putFrame -/

@[simp] theorem State.putFrame_mode (f : Frame) : (s.putFrame f).mode = s.mode := rfl
@[simp] theorem State.putFrame_cfg (f : Frame) : (s.putFrame f).cfg = s.cfg := rfl
@[simp] theorem State.putFrame_song (f : Frame) : (s.putFrame f).song = s.song := rfl
@[simp] theorem State.putFrame_wave (f : Frame) : (s.putFrame f).wave = s.wave := rfl
@[simp] theorem State.putFrame_drum (f : Frame) : (s.putFrame f).drum = s.drum := rfl
@[simp] theorem State.putFrame_ch (f : Frame) : (s.putFrame f).ch = s.ch := rfl
@[simp] theorem State.putFrame_p (f : Frame) : (s.putFrame f).p = s.p := rfl
@[simp] theorem State.putFrame_asm (f : Frame) : (s.putFrame f).asm = s.asm := rfl
@[simp] theorem State.putFrame_contrib (f : Frame) : (s.putFrame f).contrib = s.contrib := rfl
@[simp] theorem State.putFrame_frame (f : Frame) : (s.putFrame f).frame = f := rfl
@[simp] theorem State.putFrame_result (f : Frame) : (s.putFrame f).result = s.result := rfl
@[simp] theorem State.putFrame_pending (f : Frame) : (s.putFrame f).pending = s.pending := rfl

/-! ### State.advance -/

@[simp] theorem State.advance_mode : s.advance.mode = s.mode := rfl
@[simp] theorem State.advance_cfg : s.advance.cfg = s.cfg := rfl
@[simp] theorem State.advance_song : s.advance.song = s.song := rfl
@[simp] theorem State.advance_wave : s.advance.wave = s.wave := rfl
@[simp] theorem State.advance_drum : s.advance.drum = s.drum := rfl
@[simp] theorem State.advance_ch : s.advance.ch = s.ch := rfl
@[simp] theorem State.advance_p : s.advance.p = s.p + 1 := rfl
@[simp] theorem State.advance_asm : s.advance.asm = s.asm := rfl
@[simp] theorem State.advance_contrib : s.advance.contrib = s.contrib := rfl
@[simp] theorem State.advance_frame : s.advance.frame = s.frame := rfl
@[simp] theorem State.advance_result : s.advance.result = s.result := rfl
@[simp] theorem State.advance_pending : s.advance.pending = s.pending := rfl

/-! ### State.dequeue -/

@[simp] theorem State.dequeue_mode (rest : List Request) : (s.dequeue rest).mode = s.mode := rfl
@[simp] theorem State.dequeue_cfg (rest : List Request) : (s.dequeue rest).cfg = s.cfg := rfl
@[simp] theorem State.dequeue_song (rest : List Request) : (s.dequeue rest).song = s.song := rfl
@[simp] theorem State.dequeue_wave (rest : List Request) : (s.dequeue rest).wave = s.wave := rfl
@[simp] theorem State.dequeue_drum (rest : List Request) : (s.dequeue rest).drum = s.drum := rfl
@[simp] theorem State.dequeue_ch (rest : List Request) : (s.dequeue rest).ch = s.ch := rfl
@[simp] theorem State.dequeue_p (rest : List Request) : (s.dequeue rest).p = s.p := rfl
@[simp] theorem State.dequeue_asm (rest : List Request) : (s.dequeue rest).asm = s.asm := rfl
@[simp] theorem State.dequeue_contrib (rest : List Request) : (s.dequeue rest).contrib = s.contrib := rfl
@[simp] theorem State.dequeue_frame (rest : List Request) : (s.dequeue rest).frame = s.frame := rfl
@[simp] theorem State.dequeue_result (rest : List Request) : (s.dequeue rest).result = s.result := rfl
@[simp] theorem State.dequeue_pending (rest : List Request) : (s.dequeue rest).pending = rest := rfl

/-! ### State.commit -/

@[simp] theorem State.commit_mode (cfg : Cfg) (song : Song) (wave : WaveBank) (drum : List (List F64)) : (s.commit cfg song wave drum).mode = .constructed := rfl
@[simp] theorem State.commit_cfg (cfg : Cfg) (song : Song) (wave : WaveBank) (drum : List (List F64)) : (s.commit cfg song wave drum).cfg = cfg := rfl
@[simp] theorem State.commit_song (cfg : Cfg) (song : Song) (wave : WaveBank) (drum : List (List F64)) : (s.commit cfg song wave drum).song = song := rfl
@[simp] theorem State.commit_wave (cfg : Cfg) (song : Song) (wave : WaveBank) (drum : List (List F64)) : (s.commit cfg song wave drum).wave = wave := rfl
@[simp] theorem State.commit_drum (cfg : Cfg) (song : Song) (wave : WaveBank) (drum : List (List F64)) : (s.commit cfg song wave drum).drum = drum := rfl
@[simp] theorem State.commit_ch (cfg : Cfg) (song : Song) (wave : WaveBank) (drum : List (List F64)) : (s.commit cfg song wave drum).ch = Vector.replicate 16 Channel.reset := rfl
@[simp] theorem State.commit_p (cfg : Cfg) (song : Song) (wave : WaveBank) (drum : List (List F64)) : (s.commit cfg song wave drum).p = 0 := rfl
@[simp] theorem State.commit_asm (cfg : Cfg) (song : Song) (wave : WaveBank) (drum : List (List F64)) : (s.commit cfg song wave drum).asm = s.asm := rfl
@[simp] theorem State.commit_contrib (cfg : Cfg) (song : Song) (wave : WaveBank) (drum : List (List F64)) : (s.commit cfg song wave drum).contrib = s.contrib := rfl
@[simp] theorem State.commit_frame (cfg : Cfg) (song : Song) (wave : WaveBank) (drum : List (List F64)) : (s.commit cfg song wave drum).frame = s.frame := rfl
@[simp] theorem State.commit_result (cfg : Cfg) (song : Song) (wave : WaveBank) (drum : List (List F64)) : (s.commit cfg song wave drum).result = s.result := rfl
@[simp] theorem State.commit_pending (cfg : Cfg) (song : Song) (wave : WaveBank) (drum : List (List F64)) : (s.commit cfg song wave drum).pending = s.pending := rfl

/-! ### A voice's update, read back -/

@[simp] theorem State.putVoice_ch_same (c : Fin 16) (out : Contribution) (ch : Channel) :
    (s.putVoice c out ch).ch[c] = ch := by simp [State.putVoice]

@[simp] theorem State.putVoice_contrib_same (c : Fin 16) (out : Contribution) (ch : Channel) :
    (s.putVoice c out ch).contrib[c] = out := by simp [State.putVoice]

theorem State.putVoice_ch_other (c d : Fin 16) (out : Contribution) (ch : Channel) (h : c ≠ d) :
    (s.putVoice c out ch).ch[d] = s.ch[d] := by
  have : c.val ≠ d.val := fun e => h (Fin.ext e)
  simp [State.putVoice, this]

theorem State.putVoice_contrib_other (c d : Fin 16) (out : Contribution) (ch : Channel)
    (h : c ≠ d) : (s.putVoice c out ch).contrib[d] = s.contrib[d] := by
  have : c.val ≠ d.val := fun e => h (Fin.ext e)
  simp [State.putVoice, this]

/-! ### Channels -/

variable (ch : Channel)

@[simp] theorem Channel.noteEnd_noteIndex : ch.noteEnd.noteIndex = ch.noteIndex + 1 := rfl
@[simp] theorem Channel.noteEnd_wavetableOffset : ch.noteEnd.wavetableOffset = 0#64 := rfl
@[simp] theorem Channel.noteEnd_samplesPlayed : ch.noteEnd.samplesPlayed = 0 := rfl

theorem Channel.endIf_ended {p : Nat} {n : Note} (h : n.endSample ≤ p) :
    ch.endIf p n = ch.noteEnd := by simp [Channel.endIf, ended, h]

theorem Channel.endIf_going {p : Nat} {n : Note} (h : p < n.endSample) :
    ch.endIf p n = ch := by simp [Channel.endIf, ended, Nat.not_le.mpr h]

/-- NOTE_END moves one note on, or nothing moves. -/
theorem Channel.endIf_cases (p : Nat) (n : Note) :
    ch.endIf p n = ch.noteEnd ∨ ch.endIf p n = ch := by
  unfold Channel.endIf
  split
  · exact .inl rfl
  · exact .inr rfl

/-! ### The transient state of a CONSTRUCT -/

@[simp] theorem Assembly.raise_rd (e : Err) (a : Assembly) : (a.raise e).rd = a.rd := rfl
@[simp] theorem Assembly.raise_value (e : Err) (a : Assembly) : (a.raise e).value = a.value := rfl
@[simp] theorem Assembly.raise_raised (e : Err) (a : Assembly) : (a.raise e).raised = some e := rfl
@[simp] theorem Assembly.raise_song (e : Err) (a : Assembly) : (a.raise e).song = a.song := rfl
@[simp] theorem Reader.advance_buf (r : Reader) (w : Nat) : (r.advance w).buf = r.buf := rfl
@[simp] theorem Reader.advance_cur (r : Reader) (w : Nat) : (r.advance w).cur = r.cur + w := rfl

end Sys2Proof.Machine
end

