-- ==== Sys2Proof/Laws/Ops.lean ====
section
/-! SUPPORT. One lemma per shared operation that says everything it can do. -/

namespace Sys2Proof.Machine

/-! ### Reading a buffer -/

theorem memRead_of_le {buf : List Byte} {a n : Nat} (h : a + n ≤ buf.length) :
    memRead buf a n = some ((buf.drop a).take n) := by simp [memRead, h]

theorem memRead_of_lt {buf : List Byte} {a n : Nat} (h : buf.length < a + n) :
    memRead buf a n = none := by simp [memRead, Nat.not_le.mpr h]

/-- A reader primitive returns a value and advances, or raises TruncatedInput and does nothing
else. -/
theorem Assembly.readBytes_cases (w : Nat) (f : List Byte → ReadValue) (a : Assembly) :
    (a.rd.cur + w ≤ a.rd.buf.length ∧
      a.readBytes w f = { a with rd := a.rd.advance w, value := f (a.rd.rest.take w),
                                 raised := none }) ∨
    (a.rd.buf.length < a.rd.cur + w ∧ a.readBytes w f = a.raise .truncatedInput) := by
  by_cases h : a.rd.cur + w ≤ a.rd.buf.length
  · exact .inl ⟨h, by simp [Assembly.readBytes, memRead_of_le h, Reader.rest]⟩
  · have h := Nat.lt_of_not_le h
    exact .inr ⟨h, by simp [Assembly.readBytes, memRead_of_lt h]⟩

/-- No reader primitive changes the buffer (R150). -/
@[simp] theorem Assembly.readBytes_buf (w : Nat) (f : List Byte → ReadValue) (a : Assembly) :
    (a.readBytes w f).rd.buf = a.rd.buf := by
  obtain ⟨-, h⟩ | ⟨-, h⟩ := a.readBytes_cases w f <;> rw [h] <;> rfl

/-- A reader primitive keeps the cursor inside the buffer (R150). -/
theorem Assembly.readBytes_cursor (w : Nat) (f : List Byte → ReadValue) (a : Assembly)
    (h : a.rd.cur ≤ a.rd.buf.length) :
    (a.readBytes w f).rd.cur ≤ (a.readBytes w f).rd.buf.length := by
  obtain ⟨hw, e⟩ | ⟨-, e⟩ := a.readBytes_cases w f <;> rw [e]
  · exact hw
  · exact h

/-! ### Fetching a record -/

/-- A fetch gives the decoded record with the cursor behind it, or the record's error. -/
theorem fetchRecord_cases {sel : RecordSel} {a : Assembly} {r : Except Err (Instr × Assembly)}
    (h : fetchRecord sel a = r) :
    (∃ i rest, decodeRecord sel a.rd.rest = .ok (i, rest) ∧
      r = .ok (i, { a with rd := a.rd.advance sel.width })) ∨
    ((∃ e, decodeRecord sel a.rd.rest = .error e) ∧
      r = .error (truncationError a.cfg a.rd.rest sel)) := by
  subst h
  unfold fetchRecord
  split
  next i rest h => exact .inl ⟨i, rest, h, rfl⟩
  next e h => exact .inr ⟨⟨e, h⟩, rfl⟩

/-! ### Voices -/

/-- A current note is a note of the instrument, at an index below the count. -/
theorem currentNote_some {inst : Instrument} {k : Nat} {n : Note}
    (h : currentNote inst k = some n) : k < inst.noteCount.toNat ∧ inst.notes[k]? = some n := by
  unfold currentNote at h
  split at h
  · exact ⟨‹_›, h⟩
  · cases h

/-- Everything MELODIC_VOICE can do when it does not fault (R246). -/
theorem melodicStep_cases {cfg : Cfg} {wave : WaveBank} {inst : Instrument} {p : Nat}
    {ch ch' : Channel} {out : Contribution}
    (h : melodicStep cfg wave inst p ch = .ok (out, ch')) :
    (out = Contribution.silence ∧ ch' = ch ∧
      ∀ n, currentNote inst ch.noteIndex = some n → started p n = false) ∨
    (∃ n, currentNote inst ch.noteIndex = some n ∧ started p n = true ∧
      gateOpen inst ch = false ∧ out = Contribution.silence ∧ ch' = ch.endIf p n) ∨
    (∃ n x, currentNote inst ch.noteIndex = some n ∧ started p n = true ∧
      gateOpen inst ch = true ∧
      melodicSample cfg wave inst n ch.wavetableOffset = .ok x ∧
      out = contributionOf cfg.panLaw n x ∧ ch' = (ch.tone n).endIf p n) := by
  unfold melodicStep at h
  split at h
  · rename_i hn
    obtain ⟨rfl, rfl⟩ : _ ∧ _ := by simpa using h
    exact .inl ⟨rfl, rfl, by simp [hn]⟩
  · rename_i n hn
    split at h
    · rename_i hs
      split at h
      · rename_i hg
        split at h
        · cases h
        · rename_i x hx
          obtain ⟨rfl, rfl⟩ : _ ∧ _ := by simpa using h
          exact .inr (.inr ⟨n, x, hn, hs, hg, hx, rfl, rfl⟩)
      · rename_i hg
        obtain ⟨rfl, rfl⟩ : _ ∧ _ := by simpa using h
        exact .inr (.inl ⟨n, hn, hs, by simpa using hg, rfl, rfl⟩)
    · rename_i hs
      obtain ⟨rfl, rfl⟩ : _ ∧ _ := by simpa using h
      refine .inl ⟨rfl, rfl, fun m hm => ?_⟩
      rw [hn] at hm
      cases hm
      simpa using hs

/-- Everything PERC_VOICE_STREAM can do (R256). -/
theorem percStep_cases {cfg : Cfg} {drum : List (List F64)} {inst : Instrument} {p : Nat}
    {ch ch' : Channel} {out : Contribution} (h : percStep cfg drum inst p ch = (out, ch')) :
    (out = Contribution.silence ∧ ch' = ch ∧
      ∀ n, currentNote inst ch.noteIndex = some n → started p n = false) ∨
    (∃ n, currentNote inst ch.noteIndex = some n ∧ started p n = true ∧
      (drumAt drum inst.instrumentIndex)[ch.samplesPlayed]? = none ∧
      out = Contribution.silence ∧ ch' = ch.endIf p n) ∨
    (∃ n x, currentNote inst ch.noteIndex = some n ∧ started p n = true ∧
      (drumAt drum inst.instrumentIndex)[ch.samplesPlayed]? = some x ∧
      out = contributionOf cfg.panLaw n x ∧
      ch' = { ch with samplesPlayed := ch.samplesPlayed + 1 }.endIf p n) := by
  unfold percStep at h
  split at h
  · rename_i hn
    cases h
    exact .inl ⟨rfl, rfl, by simp [hn]⟩
  · rename_i n hn
    split at h
    · rename_i hs
      split at h
      · rename_i x hx
        cases h
        exact .inr (.inr ⟨n, x, hn, hs, hx, rfl, rfl⟩)
      · rename_i hx
        cases h
        exact .inr (.inl ⟨n, hn, hs, hx, rfl, rfl⟩)
    · rename_i hs
      cases h
      refine .inl ⟨rfl, rfl, fun m hm => ?_⟩
      rw [hn] at hm
      cases hm
      simpa using hs

theorem melodicVoice_cases {c : Fin 16} {s t : State} (h : melodicVoice c s = .ok t) :
    ∃ out ch, melodicStep s.cfg s.wave s.song.inst[c] s.p s.ch[c] = .ok (out, ch) ∧
      t = s.putVoice c out ch := by
  unfold melodicVoice at h
  split at h
  · cases h
  · rename_i out ch e
    exact ⟨out, ch, e, by cases h; rfl⟩

/-- Everything the voice of a percussion channel can do (R244, R256, R257). -/
theorem percVoice_cases (c : Fin 16) (s : State) :
    ∃ out ch, percVoice c s = s.putVoice c out ch ∧
      ((s.cfg.percMode = .stream ∧
          percStep s.cfg s.drum s.song.inst[c] s.p s.ch[c] = (out, ch)) ∨
       (s.cfg.percMode = .silent ∧ out = Contribution.silence ∧ ch = s.ch[c])) := by
  unfold percVoice
  split
  · exact ⟨_, _, rfl, .inl ⟨‹_›, rfl⟩⟩
  · exact ⟨_, _, rfl, .inr ⟨‹_›, rfl, rfl⟩⟩

/-- A melodic sample is the entry at the read position, or the one fault (R250, R251). -/
theorem melodicSample_cases (cfg : Cfg) (wave : WaveBank) (inst : Instrument) (n : Note)
    (offset : F64) :
    (fIsFinite (readPosition cfg n.octave offset) = true ∧
      melodicSample cfg wave inst n offset =
        .ok (waveAt wave inst.instrumentIndex (tableIndex (readPosition cfg n.octave offset)))) ∨
    (fIsFinite (readPosition cfg n.octave offset) = false ∧
      melodicSample cfg wave inst n offset = .error .nonFinitePosition) := by
  cases h : fIsFinite (readPosition cfg n.octave offset) with
  | true => exact .inl ⟨rfl, by simp [melodicSample, h]⟩
  | false => exact .inr ⟨rfl, by simp [melodicSample, h]⟩

/-! ### Reads inside the stores -/

theorem octRepeatAt_of_lt (cfg : Cfg) {o : Nat} (h : o < 8) :
    octRepeatAt cfg o = cfg.octRepeat[o] := by simp [octRepeatAt, h]

theorem octAdvanceAt_of_lt (cfg : Cfg) {o : Nat} (h : o < 8) :
    octAdvanceAt cfg o = cfg.octAdvance[o] := by simp [octAdvanceAt, h]

theorem waveAt_of_lt (wave : WaveBank) {k : Byte} (j : Fin 256) (h : k.toNat < 100) :
    waveAt wave k j = wave[k.toNat][j] := by simp [waveAt, h]

theorem drumAt_of_some {drum : List (List F64)} {k : Byte} {d : List F64}
    (h : drum[k.toNat]? = some d) : drumAt drum k = d := by simp [drumAt, h]

/-- Everything the voice of a channel can do when it does not fault (R244). -/
theorem voice_cases {c : Fin 16} {s t : State} (h : voice c s = .ok t) :
    ∃ out ch, t = s.putVoice c out ch ∧
      ((isMelodic c = true ∧
          melodicStep s.cfg s.wave s.song.inst[c] s.p s.ch[c] = .ok (out, ch)) ∨
       (isMelodic c = false ∧ s.cfg.percMode = .stream ∧
          percStep s.cfg s.drum s.song.inst[c] s.p s.ch[c] = (out, ch)) ∨
       (isMelodic c = false ∧ s.cfg.percMode = .silent ∧
          out = Contribution.silence ∧ ch = s.ch[c])) := by
  unfold voice at h
  split at h
  · rename_i hm
    obtain ⟨out, ch, e, rfl⟩ := melodicVoice_cases h
    exact ⟨out, ch, rfl, .inl ⟨hm, e⟩⟩
  · rename_i hm
    have hm : isMelodic c = false := by simpa using hm
    obtain ⟨out, ch, e, hc⟩ := percVoice_cases c s
    cases h
    exact ⟨out, ch, e, .inr (hc.imp (⟨hm, ·⟩) (⟨hm, ·⟩))⟩

/-! ### STEP and PRODUCE -/

/-- The fields that no voice, no mix and no STEP writes (R48). -/
structure SameStores (s t : State) : Prop where
  mode : t.mode = s.mode
  cfg : t.cfg = s.cfg
  song : t.song = s.song
  wave : t.wave = s.wave
  drum : t.drum = s.drum
  asm : t.asm = s.asm
  result : t.result = s.result
  pending : t.pending = s.pending

theorem SameStores.refl (s : State) : SameStores s s := ⟨rfl, rfl, rfl, rfl, rfl, rfl, rfl, rfl⟩

theorem SameStores.trans {s t u : State} (h : SameStores s t) (k : SameStores t u) :
    SameStores s u :=
  ⟨k.mode.trans h.mode, k.cfg.trans h.cfg, k.song.trans h.song, k.wave.trans h.wave,
   k.drum.trans h.drum, k.asm.trans h.asm, k.result.trans h.result, k.pending.trans h.pending⟩

theorem putVoice_sameStores (c : Fin 16) (out : Contribution) (ch : Channel) (s : State) :
    SameStores s (s.putVoice c out ch) := ⟨rfl, rfl, rfl, rfl, rfl, rfl, rfl, rfl⟩

/-- The voices leave the stores, p and the frame as they were. -/
theorem runVoices_frame {cs : List (Fin 16)} {s t : State} (h : runVoices cs s = .ok t) :
    SameStores s t ∧ t.p = s.p ∧ t.frame = s.frame := by
  induction cs generalizing s with
  | nil => cases h; exact ⟨SameStores.refl _, rfl, rfl⟩
  | cons c cs ih =>
    unfold runVoices at h
    split at h
    · rename_i u hv
      obtain ⟨out, ch, rfl, -⟩ := voice_cases hv
      obtain ⟨h₁, h₂, h₃⟩ := ih h
      exact ⟨(putVoice_sameStores c out ch s).trans h₁, h₂, h₃⟩
    · cases h

/-- A STEP that completes is the voices, the mix and the advance (R243). -/
theorem stepFrame_cases {s t : State} (h : stepFrame s = .ok t) :
    ∃ u, runVoices channels s = .ok u ∧ t = (mixClamp u).advance := by
  unfold stepFrame at h
  split at h
  · rename_i u hu
    exact ⟨u, hu, by cases h; rfl⟩
  · cases h

/-- A STEP leaves the stores as they were and advances p by one (R48, R261). -/
theorem stepFrame_frame {s t : State} (h : stepFrame s = .ok t) :
    SameStores s t ∧ t.p = s.p + 1 := by
  obtain ⟨u, hu, rfl⟩ := stepFrame_cases h
  obtain ⟨hs, hp, -⟩ := runVoices_frame hu
  refine ⟨hs.trans ⟨rfl, rfl, rfl, rfl, rfl, rfl, rfl, rfl⟩, ?_⟩
  simp [mixClamp, hp]

/-- `n` STEPs return `n` frames, leave the stores as they were and advance p by `n`. -/
theorem produceFrames_frame {n : Nat} {s t : State} {fs : List Frame}
    (h : produceFrames n s = .ok (fs, t)) :
    SameStores s t ∧ t.p = s.p + n ∧ fs.length = n := by
  induction n generalizing s fs with
  | zero => cases h; exact ⟨SameStores.refl _, rfl, rfl⟩
  | succ n ih =>
    unfold produceFrames at h
    split at h
    · cases h
    · rename_i u hu
      split at h
      · rename_i gs v hv
        obtain ⟨rfl, rfl⟩ : _ ∧ _ := by simpa using h
        obtain ⟨h₁, h₂⟩ := stepFrame_frame hu
        obtain ⟨k₁, k₂, k₃⟩ := ih hv
        exact ⟨h₁.trans k₁, by omega, by simp [k₃]⟩
      · cases h

/-! ### CONSTRUCT -/

/-- Everything a CONSTRUCT can do (R240, R315, R326). -/
theorem execConstruct_cases (cfg : Cfg) (songIn waveIn : List Byte) (drumIn : List (List Byte))
    (s : State) :
    (cfgLegal cfg = false ∧
      execConstruct cfg songIn waveIn drumIn s = .refused .illegalConfig) ∨
    (cfgLegal cfg = true ∧ drumIn.length ≠ cfg.numDrums ∧
      execConstruct cfg songIn waveIn drumIn s = .refused .drumCount) ∨
    (cfgLegal cfg = true ∧ drumIn.length = cfg.numDrums ∧
      ∃ e, buildEngine cfg songIn waveIn drumIn = .error e ∧
        execConstruct cfg songIn waveIn drumIn s = .next (s.failWith e)) ∨
    (cfgLegal cfg = true ∧ drumIn.length = cfg.numDrums ∧
      ∃ song wave drum, buildEngine cfg songIn waveIn drumIn = .ok (song, wave, drum) ∧
        execConstruct cfg songIn waveIn drumIn s =
          .next ((s.commit cfg song wave drum).putResult
            (.constructed song.songStartSample song.songEndSample))) := by
  unfold execConstruct
  by_cases h₁ : cfgLegal cfg = true
  · by_cases h₂ : drumIn.length = cfg.numDrums
    · right; right
      cases h₃ : buildEngine cfg songIn waveIn drumIn with
      | error e => exact .inl ⟨h₁, h₂, e, rfl, by simp [h₁, h₂]⟩
      | ok r =>
        obtain ⟨song, wave, drum⟩ := r
        exact .inr ⟨h₁, h₂, song, wave, drum, rfl, by simp [h₁, h₂]⟩
    · exact .inr (.inl ⟨h₁, h₂, by simp [h₁, h₂]⟩)
  · exact .inl ⟨by simpa using h₁, by simp [h₁]⟩

end Sys2Proof.Machine
end

