-- ==== Sys2Proof/Laws/Memory.lean ====
section
/-! SUPPORT. No operation changes an input buffer (R91, R150): the block's only memory is read-only
(R80–R82, R85). -/

namespace Sys2Proof.Machine

/-- Whatever an operation does, the reader's buffer holds the same bytes afterwards. -/
theorem exec_keeps_buffer {i : Instr} {s t : State} (h : exec i s = .next t) :
    t.asm.rd.buf = s.asm.rd.buf := by
  cases i with
  | songHeader r =>
    simp only [exec, execSongHeader] at h
    split at h <;> cases h <;> rfl
  | instrumentHeader k r => simp only [exec, execInstrumentHeader] at h; cases h; rfl
  | note k r => simp only [exec, execNote] at h; cases h; rfl
  | waveEntry w b => simp only [exec, execWaveEntry] at h; cases h; rfl
  | drumSample x => simp only [exec, execDrumSample] at h; cases h; rfl
  | readU8 => simp only [exec, execReadU8] at h; cases h; simp
  | readU16le => simp only [exec, execReadU16le] at h; cases h; simp
  | readU32le => simp only [exec, execReadU32le] at h; cases h; simp
  | readS8 => simp only [exec, execReadS8] at h; cases h; simp
  | readS16be => simp only [exec, execReadS16be] at h; cases h; simp
  | skip n => simp only [exec, execSkip] at h; cases h; simp
  | readWaveform => simp only [exec, execReadWaveform] at h; cases h; simp
  | construct cfg a b d =>
    simp only [exec] at h
    obtain ⟨-, e⟩ | ⟨-, -, e⟩ | ⟨-, -, _, -, e⟩ | ⟨-, -, _, _, _, -, e⟩ :=
      execConstruct_cases cfg a b d s <;> rw [e] at h <;> cases h <;> rfl
  | produce n =>
    simp only [exec, execProduce] at h
    split at h
    · cases h
    · split at h
      · rename_i fs u hu
        cases h
        simp [(produceFrames_frame hu).1.asm]
      · cases h
  | step =>
    simp only [exec, execStep] at h
    cases hu : stepFrame s with
    | error r => rw [hu] at h; cases h
    | ok u => rw [hu] at h; cases h; rw [(stepFrame_frame hu).1.asm]
  | melodicVoice c =>
    simp only [exec, execMelodicVoice] at h
    split at h
    · cases hu : melodicVoice c s with
      | error r => rw [hu] at h; cases h
      | ok u =>
        rw [hu] at h
        obtain ⟨out, ch, -, rfl⟩ := melodicVoice_cases hu
        cases h
        rfl
    · cases h
  | percVoiceStream c =>
    simp only [exec, execPercVoiceStream] at h
    split at h
    · cases h
    · cases h
      obtain ⟨out, ch, e, -⟩ := percVoice_cases c s
      rw [e]; rfl
  | percVoiceSilent c =>
    simp only [exec, execPercVoiceSilent] at h
    split at h
    · cases h
    · cases h; rfl
  | mixClamp => simp only [exec, execMixClamp] at h; cases h; rfl

end Sys2Proof.Machine
end

