-- ==== Sys2Proof/Laws/PerInstr.lean ====
section
/-! SUPPORT. Facts about every operation as syntax, one lemma per constructor. -/

namespace Sys2Proof.Laws.RecordWidth

/-- The encoding has the size of the operation's record (R112–R116), and a typed call, which has no
record, has no bytes (R123). -/
def Statement (i : Instr) : Prop :=
  (encode i).length = (i.selector.map RecordSel.width).getD 0

theorem songHeader (h : SongHeaderRec) : Statement (.songHeader h) := rfl
theorem instrumentHeader (i : Fin 16) (h : InstrumentRec) : Statement (.instrumentHeader i h) := rfl
theorem note (i : Fin 16) (r : NoteRec) : Statement (.note i r) := rfl
theorem waveEntry (w : Fin 100) (b : Vector Byte 256) : Statement (.waveEntry w b) := by
  simp [Statement, encode, Instr.selector, RecordSel.width]
theorem drumSample (x : BitVec 16) : Statement (.drumSample x) := rfl
theorem readU8 : Statement .readU8 := rfl
theorem readU16le : Statement .readU16le := rfl
theorem readU32le : Statement .readU32le := rfl
theorem readS8 : Statement .readS8 := rfl
theorem readS16be : Statement .readS16be := rfl
theorem skip (n : Nat) : Statement (.skip n) := rfl
theorem readWaveform : Statement .readWaveform := rfl
theorem construct (cfg : Cfg) (a b : List Byte) (d : List (List Byte)) :
    Statement (.construct cfg a b d) := rfl
theorem produce (n : BitVec 32) : Statement (.produce n) := rfl
theorem step : Statement .step := rfl
theorem melodicVoice (c : Fin 16) : Statement (.melodicVoice c) := rfl
theorem percVoiceStream (c : Fin 16) : Statement (.percVoiceStream c) := rfl
theorem percVoiceSilent (c : Fin 16) : Statement (.percVoiceSilent c) := rfl
theorem mixClamp : Statement .mixClamp := rfl

end Sys2Proof.Laws.RecordWidth
end

