-- ==== Sys2Proof/Tests/Slice0.lean ====
section
/-! SUPPORT. Tests: ill-formed terms, decoding, one step of each operation on small states, and for
every obligation with hypotheses a state and operands that meet them. Expected values are those of
spec/95_test_vectors.md (named by section) or hand calculations from the cited rule. -/

namespace Sys2Proof.Tests

open Sys2Proof.Machine Sys2Proof.Claims

-- one declaration at a time: many kernel checks in parallel exhaust the sandbox's memory
set_option Elab.async false

/-! ### Helpers -/

/-- The outcome is a next state that the test `f` accepts. -/
def nextAnd (o : Host.Outcome State Fault Refusal) (f : State → Bool) : Bool :=
  match o with
  | .next t => f t
  | .fault _ => false
  | .refused _ => false

theorem next_of_nextAnd {o : Host.Outcome State Fault Refusal} {f : State → Bool}
    (h : nextAnd o f = true) : ∃ t, o = .next t ∧ f t = true := by
  cases o with
  | next t => exact ⟨t, rfl, h⟩
  | fault r => cases h
  | refused r => cases h

/-- The outcome is the fault `r`. -/
def faultsWith (o : Host.Outcome State Fault Refusal) (r : Fault) : Bool :=
  match o with
  | .next _ => false
  | .fault r' => decide (r' = r)
  | .refused _ => false

theorem fault_of_faultsWith {o : Host.Outcome State Fault Refusal} {r : Fault}
    (h : faultsWith o r = true) : o = .fault r := by
  cases o with
  | next t => cases h
  | fault r' => rw [show r' = r from of_decide_eq_true h]
  | refused r' => cases h

/-- The computation succeeds. -/
def isOk {α β : Type} : Except α β → Bool
  | .ok _ => true
  | .error _ => false

theorem ok_of_isOk {α β : Type} {e : Except α β} (h : isOk e = true) : ∃ b, e = .ok b := by
  cases e with
  | ok b => exact ⟨b, rfl⟩
  | error a => cases h

/-- The computation fails with `e`. -/
def failsWith {α : Type} (x : Except Err α) (e : Err) : Bool :=
  match x with
  | .error e' => decide (e' = e)
  | .ok _ => false

theorem error_of_failsWith {α : Type} {x : Except Err α} {e : Err} (h : failsWith x e = true) :
    x = .error e := by
  cases x with
  | error e' => rw [of_decide_eq_true h]
  | ok a => cases h

/-- The test configuration TC (95_test_vectors §2). -/
def tc : Cfg where
  sampleRate := 1000
  freqTable := #v[
    0x407f400000000000#64, 0x408f400000000000#64, 0x4097700000000000#64, 0x409f400000000000#64,
    0x40a3880000000000#64, 0x40a7700000000000#64, 0x40ab580000000000#64, 0x40af400000000000#64,
    0x40b1940000000000#64, 0x40b3880000000000#64, 0x40b57c0000000000#64, 0x40b7700000000000#64]
  octRepeat := #v[
    0x4010000000000000#64, 0x4010000000000000#64, 0x4000000000000000#64, 0x4000000000000000#64,
    0x3ff0000000000000#64, 0x3ff0000000000000#64, 0x3ff0000000000000#64, 0x3ff0000000000000#64]
  octAdvance := #v[
    0x3ff0000000000000#64, 0x4000000000000000#64, 0x3ff0000000000000#64, 0x4000000000000000#64,
    0x3ff0000000000000#64, 0x4000000000000000#64, 0x4010000000000000#64, 0x4020000000000000#64]
  magic := [⟨0xFFFFFFFFFFFF#48, 0x4E41452D5431#48⟩]
  numDrums := 1
  panLaw := .unity
  percMode := .stream

/-- Inside a CONSTRUCT with configuration TC, the cursor at `cur` of `buf`. -/
def reading (buf : List Byte) (cur : Nat) : State :=
  { State.reset with asm := { Assembly.powerOn with cfg := tc, rd := ⟨buf, cur⟩ } }

/-- The bytes of entry 0 of the test bank (95_test_vectors §2): byte j is j. -/
def rampBytes : Vector Byte 256 := ⟨((List.range 256).map (BitVec.ofNat 8)).toArray, by simp⟩

/-- Entry 0 of the test bank: sample j is sext_8(j)/128. -/
def ramp : Vector F64 256 := rampBytes.map waveSample

/-- drum[0] of TC (95_test_vectors §2). -/
def drum0 : List F64 :=
  [0x3fe0002000400080#64, 0x3fe0002000400080#64, 0xbfe0002000400080#64, 0xbfe0002000400080#64]

/-- The note of program P1 (95_test_vectors §4.1), window [2, 5], speed 1.5. -/
def noteP1 : Note := ⟨2, 5, 50, 254, 127, 0x3ff8000000000000#64⟩

/-- The note of program P3 (95_test_vectors §4.3), window [1, 6], speed 0.5. -/
def noteP3 : Note := ⟨1, 6, 0, 254, 127, 0x3fe0000000000000#64⟩

/-- A song with P1's note on channel 0 and P3's on channel 8; `flag` is channel 0's short-note
flag. -/
def demoSong (flag : Bool) : Song :=
  { Song.empty with
    inst := (Song.empty.inst.set 0 ⟨1000#16, 0#8, flag, 1#16, [noteP1]⟩).set 8
      ⟨1000#16, 0#8, false, 1#16, [noteP3]⟩ }

/-- An engine constructed with that song, at position `p`, with the registers of channels 0
and 8. -/
def demo (flag : Bool) (p : Nat) (ch0 ch8 : Channel) : State :=
  { State.reset with
    mode := .constructed
    cfg := tc
    song := demoSong flag
    wave := WaveBank.empty.set 0 ramp
    drum := [drum0]
    ch := (State.reset.ch.set 0 ch0).set 8 ch8
    p := p }

/-- The song as constructed, at position `p`. -/
def fresh (p : Nat) : State := demo false p Channel.reset Channel.reset

/-- The song constructed under SILENT. -/
def muted (p : Nat) (ch0 : Channel) : State :=
  { demo false p ch0 Channel.reset with cfg := { tc with percMode := .silent } }

/-- An engine without a note, under TC. -/
def quiet : State := { State.reset with mode := .constructed, cfg := tc, drum := [drum0] }

/-! ### Well-formedness -/

theorem test_illFormed_melodicVoice : (Instr.melodicVoice 8).wellFormed = false := by decide

theorem test_illFormed_percVoiceStream : (Instr.percVoiceStream 7).wellFormed = false := by decide

theorem test_illFormed_percVoiceSilent : (Instr.percVoiceSilent 0).wellFormed = false := by decide

theorem test_wellFormed_voices :
    (Instr.melodicVoice 7).wellFormed = true ∧ (Instr.percVoiceStream 8).wellFormed = true ∧
    (Instr.percVoiceSilent 15).wellFormed = true := by decide

/-! ### Decoding (R112–R116, 95_test_vectors §3.2, §3.3) -/

/-- The header of §3.2.1: byte 0 is the least significant byte of the table's number. -/
theorem test_decode_songHeader :
    decodeTableWord 136 0x000000140000000A04030831542D45414E =
      some (.songHeader ⟨0x4E41452D5431#48, 8#8, 3#8, 4#8, 10#32, 20#32⟩) := by decide

/-- The first row of §3.2.2. -/
theorem test_decode_instrumentHeader :
    decodeTableWord 48 0x0002010503E8 =
      some (.instrumentHeader 0 ⟨1000#16, 5#8, 1#8, 2#16⟩) := by decide

/-- Record 3 of §3.2.3. -/
theorem test_decode_note :
    decodeTableWord 64 0xFF64FF3E00000012 =
      some (.note 0 ⟨18#32, 62#8, 0xFF#8, 100#8, 0xFF#8⟩) := by decide

/-- Byte j of a wave entry is sample j. -/
theorem test_decode_waveEntry :
    (decodeWaveEntry (rampBytes.toList ++ [0xAA#8])).map
      (fun r => (r.1[0], r.1[1], r.1[255], r.2)) = some (0x00#8, 0x01#8, 0xFF#8, [0xAA#8]) := by
  decide +kernel

/-- The pair `C0 01` is big-endian (R116). -/
theorem test_decode_drumSample :
    decodeTableWord 16 0x01C0 = some (.drumSample 0xC001#16) := by decide

/-- A typed call has no bits (R123). -/
theorem test_decode_typedCalls : decodeTableWord 0 0 = none ∧ decodeTableWord 32 0 = none := by
  decide

/-- The encoder writes the bytes of §3.2.3, record 4. -/
theorem test_encode_note :
    encode (.note 5 ⟨0xFFFFFFFF#32, 0#8, 254#8, 254#8, 254#8⟩) =
      [0xFF#8, 0xFF#8, 0xFF#8, 0xFF#8, 0x00#8, 0xFE#8, 0xFE#8, 0xFE#8] := by decide

/-! ### The reader (95_test_vectors §3.1) -/

theorem test_readU8 : nextAnd (exec .readU8 (reading [0xFF#8] 0))
    (fun t => t.asm.value = .num 255 ∧ t.asm.rd.cur = 1) := by decide

theorem test_readU8_empty : nextAnd (exec .readU8 (reading [] 0))
    (fun t => t.asm.raised = some .truncatedInput ∧ t.asm.rd.cur = 0) := by decide

theorem test_readU16le : nextAnd (exec .readU16le (reading [0x00#8, 0xE8#8, 0x03#8] 1))
    (fun t => t.asm.value = .num 1000 ∧ t.asm.rd.cur = 3) := by decide

theorem test_readU16le_short : nextAnd (exec .readU16le (reading [0xE8#8] 0))
    (fun t => t.asm.raised = some .truncatedInput ∧ t.asm.rd.cur = 0) := by decide

theorem test_readU32le : nextAnd (exec .readU32le (reading [0x01#8, 0x02#8, 0x03#8, 0x04#8] 0))
    (fun t => t.asm.value = .num 67305985 ∧ t.asm.rd.cur = 4) := by decide

theorem test_readS8 : nextAnd (exec .readS8 (reading [0x80#8] 0))
    (fun t => t.asm.value = .num (-128) ∧ t.asm.rd.cur = 1) := by decide

theorem test_readS16be : nextAnd (exec .readS16be (reading [0x80#8, 0x00#8] 0))
    (fun t => t.asm.value = .num (-32768) ∧ t.asm.rd.cur = 2) := by decide

theorem test_readS16be_odd : nextAnd (exec .readS16be (reading [0x40#8, 0x00#8, 0xC0#8] 2))
    (fun t => t.asm.raised = some .truncatedInput ∧ t.asm.rd.cur = 2) := by decide

theorem test_skip : nextAnd (exec (.skip 2) (reading (List.replicate 9 0#8) 7))
    (fun t => t.asm.raised = none ∧ t.asm.rd.cur = 9) := by decide

theorem test_skip_short : nextAnd (exec (.skip 3) (reading (List.replicate 9 0#8) 7))
    (fun t => t.asm.raised = some .truncatedInput ∧ t.asm.rd.cur = 7) := by decide

theorem test_readWaveform : nextAnd
    (exec .readWaveform (reading (0xAA#8 :: List.replicate 256 0x80#8) 1))
    (fun t => t.asm.value = .block (List.replicate 256 0x80#8) ∧ t.asm.rd.cur = 257) := by
  decide +kernel

theorem test_readWaveform_short : nextAnd
    (exec .readWaveform (reading (List.replicate 256 0x80#8) 1))
    (fun t => t.asm.raised = some .truncatedInput ∧ t.asm.rd.cur = 1) := by decide +kernel

/-! ### Record decoders -/

/-- §3.2.1 at 44100 Hz: 3528 and 7056. -/
theorem test_songHeader : nextAnd
    (exec (.songHeader ⟨0x4E41452D5431#48, 8#8, 3#8, 4#8, 10#32, 20#32⟩)
      { reading [] 0 with asm := { (reading [] 0).asm with cfg := { tc with sampleRate := 44100 } } })
    (fun t => t.asm.song.songStartSample = 3528 ∧ t.asm.song.songEndSample = 7056 ∧
      t.asm.song.waitMs = 8#8 ∧ t.asm.song.timeSig = (3#8, 4#8)) := by decide +kernel

/-- §3.2.1 with byte 5 = 0x32. -/
theorem test_songHeader_badMagic : nextAnd
    (exec (.songHeader ⟨0x4E41452D5432#48, 8#8, 3#8, 4#8, 10#32, 20#32⟩) (reading [] 0))
    (fun t => t.asm.raised = some .invalidFormat ∧ t.asm.song = Song.empty) := by decide +kernel

/-- The third row of §3.2.2: any flag byte but zero is true. -/
theorem test_instrumentHeader : nextAnd
    (exec (.instrumentHeader 15 ⟨0xFFFF#16, 0xFF#8, 0x80#8, 0xFFFF#16⟩) (reading [] 0))
    (fun t => t.asm.song.inst[15] = ⟨65535#16, 255#8, true, 65535#16, []⟩ ∧
      t.asm.song.inst[14] = Instrument.empty) := by decide +kernel

/-- Record 4 of §3.2.3 (44100 Hz, waitMs 8): no 32-bit wrap of beat + length. -/
theorem test_note : nextAnd
    (exec (.note 3 ⟨0xFFFFFFFF#32, 0#8, 254#8, 254#8, 254#8⟩)
      { reading [] 0 with asm := { (reading [] 0).asm with
          cfg := { tc with sampleRate := 44100 }, song := { Song.empty with waitMs := 8#8 } } })
    (fun t => t.asm.song.inst[3].notes.map (fun n => (n.startSample, n.endSample)) =
      [(1515264461676, 1515264551288)]) := by decide +kernel

/-- Record B of §3.2.6 after A: pitch, volume and pan inherited; speed 0.5 under voiceId 1000. -/
theorem test_note_inherits : nextAnd
    (exec (.note 0 ⟨2#32, 0xFF#8, 3#8, 0xFF#8, 0xFF#8⟩)
      { reading [] 0 with asm := { (reading [] 0).asm with
          prev := ⟨48, 1, 254, 127⟩
          song := { demoSong false with waitMs := 1#8 } } })
    (fun t => t.asm.prev = ⟨48, 3, 254, 127⟩ ∧ t.asm.song.inst[0].notes =
      [noteP1, ⟨2, 5, 48, 254, 127, 0x3fe0000000000000#64⟩]) := by decide +kernel

/-- §3.3: bytes 0x80 and 0x7F are −1.0 and 127/128. -/
theorem test_waveEntry : nextAnd
    (exec (.waveEntry 99 rampBytes) (reading [] 0))
    (fun t => t.asm.wave[99][128] = 0xbff0000000000000#64 ∧
      t.asm.wave[99][127] = 0x3fefc00000000000#64 ∧ t.asm.wave[98][127] = 0#64) := by
  decide +kernel

/-- §3.3: 0x8000 is −32768/32767, stored twice. -/
theorem test_drumSample : nextAnd (exec (.drumSample 0x8000#16) (reading [] 0))
    (fun t => t.asm.d = [0xbff0002000400080#64, 0xbff0002000400080#64]) := by decide +kernel

/-- §3.3: 16384 is 3fe0002000400080, stored twice. -/
theorem test_drumSample_twice : nextAnd (exec (.drumSample 0x4000#16)
    { reading [] 0 with asm := { (reading [] 0).asm with d := [0#64, 0#64] } })
    (fun t => t.asm.d = [0#64, 0#64, 0x3fe0002000400080#64, 0x3fe0002000400080#64]) := by
  decide +kernel

/-! ### CONSTRUCT and PRODUCE -/

/-- The bytes of a song without notes: waitMs 1, end beat `e` (R110). -/
def emptySongIn (e : Byte) : List Byte :=
  [0x4E#8, 0x41#8, 0x45#8, 0x2D#8, 0x54#8, 0x31#8, 0x01#8, 0x04#8, 0x04#8, 0x00#8, 0x00#8, 0x00#8,
    0x00#8, e, 0x00#8, 0x00#8, 0x00#8] ++ List.replicate 96 0x00#8

/-- R240's example: Ok(T(0), T(8)), which is Ok(0, 8) at 1000 Hz and waitMs 1; p and the channels
are zero. -/
theorem test_construct : nextAnd
    (exec (.construct tc (emptySongIn 8#8) (List.replicate 25600 0#8) [[0x40#8, 0x00#8]])
      { fresh 7 with ch := Vector.replicate 16 ⟨3, 1#64, 4⟩ })
    (fun t => t.result = .constructed 0 8 ∧ t.mode = .constructed ∧ t.p = 0 ∧
      t.ch = State.reset.ch ∧ t.drum.map List.length = [2]) := by decide +kernel

/-- R315: a failed CONSTRUCT answers Err(code) and keeps the old engine. -/
theorem test_construct_fails : nextAnd
    (exec (.construct tc ((emptySongIn 8#8).take 112) [] [[]]) (fresh 3))
    (fun t => t.result = .failed .truncatedInput ∧ t.p = 3 ∧ t.mode = .constructed) := by
  decide +kernel

/-- Program P1 from p = 2 (§4.1): samples 0 and 1/128 in both lanes, but here with P3's drum on
channel 8, exhausted. -/
theorem test_produce : nextAnd
    (exec (.produce 2#32) (demo false 2 Channel.reset ⟨0, 0#64, 4⟩))
    (fun t => t.result = .frames [⟨0x00000000#32, 0x00000000#32⟩, ⟨0x3c000000#32, 0x3c000000#32⟩] ∧
      t.p = 4) := by decide +kernel

/-- R326 a. -/
theorem test_produce_refused :
    exec (.produce 1#32) State.reset = .refused .notConstructed := rfl

/-- The first STEP runs at p = 0 and leaves p = 1 (R243); no note has started. -/
theorem test_step : nextAnd (exec .step (fresh 0))
    (fun t => t.p = 1 ∧ t.frame = ⟨0x00000000#32, 0x00000000#32⟩ ∧ t.ch = (fresh 0).ch) := by
  decide +kernel

/-! ### Voices and the mixer -/

/-- P1's second sample: offset 1.5 reads wave[0][1] = 1/128; the offset becomes 3.0. -/
theorem test_melodicVoice : nextAnd
    (exec (.melodicVoice 0) (demo false 3 ⟨0, 0x3ff8000000000000#64, 1⟩ Channel.reset))
    (fun t => t.contrib[0] = ⟨0x3f80000000000000#64, 0x3f80000000000000#64⟩ ∧
      t.ch[0] = ⟨0, 0x4008000000000000#64, 2⟩ ∧ t.p = 3) := by decide +kernel

/-- P1 at p = endSample = 5: offset 4.5 reads 4/128, and the note ends in the same operation. -/
theorem test_melodicVoice_ends : nextAnd
    (exec (.melodicVoice 0) (demo false 5 ⟨0, 0x4012000000000000#64, 3⟩ Channel.reset))
    (fun t => t.contrib[0] = ⟨0x3fa0000000000000#64, 0x3fa0000000000000#64⟩ ∧
      t.ch[0] = ⟨1, 0x0000000000000000#64, 0⟩) := by decide +kernel

/-- P3's third sample is −a. -/
theorem test_percVoiceStream : nextAnd
    (exec (.percVoiceStream 8) (demo false 3 Channel.reset ⟨0, 0#64, 2⟩))
    (fun t => t.contrib[8] = ⟨0xbfe0002000400080#64, 0xbfe0002000400080#64⟩ ∧
      t.ch[8] = ⟨0, 0x0000000000000000#64, 3⟩) := by decide +kernel

/-- R225, R257: under SILENT the drum is not read and nothing is counted, though P3's note sounds. -/
theorem test_percVoiceStream_silent : nextAnd
    (exec (.percVoiceStream 8) (muted 3 Channel.reset))
    (fun t => t.contrib[8] = Contribution.silence ∧ t.ch[8] = ⟨0, 0#64, 0⟩) := by decide +kernel

/-- R257: silence, no register written, though the note sounds and would end. -/
theorem test_percVoiceSilent : nextAnd
    (exec (.percVoiceSilent 8) { demo false 6 Channel.reset ⟨0, 0#64, 2⟩ with
      contrib := Vector.replicate 16 ⟨1#64, 1#64⟩ })
    (fun t => t.contrib[8] = Contribution.silence ∧ t.ch[8] = ⟨0, 0#64, 2⟩) := by decide +kernel

/-- P2 drives the sum to 1.05 (§1.3): 0.5 + 0.5 + 0.05 clamps to 1.0; the other lane is −0.5. -/
theorem test_mixClamp : nextAnd
    (exec .mixClamp { quiet with contrib :=
      (State.reset.contrib.set 0 (⟨0x3fe0000000000000#64, 0xbfe0000000000000#64⟩)
        |>.set 1 (⟨0x3fe0000000000000#64, 0x0000000000000000#64⟩)
        |>.set 2 (⟨0x3fa999999999999a#64, 0x0000000000000000#64⟩)) })
    (fun t => t.frame = ⟨0x3f800000#32, 0xbf000000#32⟩) := by decide +kernel

/-! ### A step of the machine -/

/-- The record placed by `withFetchWord` is run by the next step. -/
theorem test_step_runsRecord : nextAnd (step (State.reset.withFetchWord 16 0x0080))
    (fun t => t.asm.d = [0xbff0002000400080#64, 0xbff0002000400080#64] ∧ t.asm.rd.cur = 2 ∧
      t.pending = []) := by decide +kernel

/-- A note stream that ends inside a record is InvalidFormat (R186). -/
theorem test_step_shortNote : nextAnd
    (step { reading (List.replicate 7 0#8) 0 with pending := [.record (.note 0)] })
    (fun t => t.asm.raised = some .invalidFormat ∧ t.asm.rd.cur = 0) := by decide +kernel

/-! ### Witnesses: states and operands that meet the hypotheses of the obligations -/

/-- The bytes of the note of program P1. -/
def noteBytes : List Byte := [0x02#8, 0x00#8, 0x00#8, 0x00#8, 0x32#8, 0x03#8, 0xFE#8, 0x7F#8]

/-- The header bytes of §3.2.1. -/
def headerBytes : List Byte :=
  [0x4E#8, 0x41#8, 0x45#8, 0x2D#8, 0x54#8, 0x31#8, 0x08#8, 0x03#8, 0x04#8,
   0x0A#8, 0x00#8, 0x00#8, 0x00#8, 0x14#8, 0x00#8, 0x00#8, 0x00#8]

/-- One selector of each record row. -/
theorem witness_DecodeOfEncode :
    (Instr.songHeader ⟨0#48, 0#8, 0#8, 0#8, 0#32, 0#32⟩).selector = some .songHeader ∧
    (Instr.instrumentHeader 15 ⟨0xFFFF#16, 255#8, 255#8, 0#16⟩).selector =
      some (.instrumentHeader 15) ∧
    (Instr.note 0 ⟨0xFFFFFFFF#32, 255#8, 255#8, 255#8, 255#8⟩).selector = some (.note 0) ∧
    (Instr.waveEntry 99 (Vector.replicate 256 0x80#8)).selector = some (.waveEntry 99) ∧
    (Instr.drumSample 0x8000#16).selector = some .drumSample := by decide

theorem witness_EncodeOfDecode :
    decodeRecord .drumSample [0x80#8, 0x00#8, 0xAA#8] = .ok (.drumSample 0x8000#16, [0xAA#8]) := by
  decide

theorem witness_DecodeRefusesShortBytes :
    decodeRecord (.note 0) (noteBytes.take 7) = .error (.truncated (.note 0)) ∧
    (RecordSel.note 0).width ≤ noteBytes.length := by decide

theorem witness_RecordsAreReadByThePrimitives :
    (decodeSongHeader (reading headerBytes 0).asm.rd.rest).isSome = true ∧
    (decodeInstrumentHeader (reading (List.replicate 7 0xFF#8) 1).asm.rd.rest).isSome = true ∧
    (decodeNote (reading noteBytes 0).asm.rd.rest).isSome = true ∧
    (decodeWaveEntry (reading (List.replicate 256 0x80#8) 0).asm.rd.rest).isSome = true ∧
    (decodeDrumSample (reading [0x80#8, 0x00#8] 0).asm.rd.rest).isSome = true := by decide +kernel

theorem witness_StepRunsTheDecodedOperation :
    { quiet with pending := [.call .step, .call .mixClamp] }.pending =
      Request.call .step :: [.call .mixClamp] ∧
    (State.reset.withFetchWord 16 0x0080).pending = Request.record .drumSample :: [] ∧
    decodeRecord .drumSample ((State.reset.withFetchWord 16 0x0080).asm.rd.buf.drop
      (State.reset.withFetchWord 16 0x0080).asm.rd.cur) = .ok (.drumSample 0x8000#16, []) ∧
    quiet.pending = [] := by decide

/-- A note of 7 bytes, a header of 16 bytes with a bad magic, one of 5 bytes, and an instrument
header of 5 bytes. -/
theorem witness_StepRaisesOnAShortRecord :
    ((reading (noteBytes.take 7) 0).asm.rd.buf.drop 0).length < (RecordSel.note 0).width ∧
    ((reading (List.replicate 16 0#8) 0).asm.rd.buf.drop 0).length < RecordSel.songHeader.width ∧
    (6 ≤ (List.replicate 16 0#8 : List Byte).length ∧
      magicOk tc (magicAt (List.replicate 16 0#8)) = false) ∧
    ((reading (headerBytes.take 5) 0).asm.rd.buf.drop 0).length < RecordSel.songHeader.width ∧
    ((reading (noteBytes.take 5) 0).asm.rd.buf.drop 0).length <
      (RecordSel.instrumentHeader 0).width := by decide

/-- The last byte, pair and quad of a buffer, and one byte too few. -/
theorem witness_UnsignedReads :
    (reading [0x01#8, 0xFF#8] 1).asm.rd.buf.drop 1 = 0xFF#8 :: [] ∧
    (reading [0x01#8, 0xE8#8, 0x03#8] 1).asm.rd.buf.drop 1 = 0xE8#8 :: 0x03#8 :: [] ∧
    (reading [0x01#8, 0x02#8, 0x03#8, 0x04#8] 0).asm.rd.buf.drop 0 =
      0x01#8 :: 0x02#8 :: 0x03#8 :: 0x04#8 :: [] ∧
    (reading [] 0).asm.rd.buf.length < (reading [] 0).asm.rd.cur + 1 ∧
    (reading [0xE8#8] 0).asm.rd.buf.length < (reading [0xE8#8] 0).asm.rd.cur + 2 ∧
    (reading [0x01#8, 0x02#8, 0x03#8] 0).asm.rd.buf.length <
      (reading [0x01#8, 0x02#8, 0x03#8] 0).asm.rd.cur + 4 := by decide

theorem witness_SignedReads :
    (reading [0x7F#8] 0).asm.rd.buf.drop 0 = 0x7F#8 :: [] ∧
    (reading [0x80#8] 0).asm.rd.buf.drop 0 = 0x80#8 :: [] ∧
    (reading [0x7F#8, 0xFF#8] 0).asm.rd.buf.drop 0 = 0x7F#8 :: 0xFF#8 :: [] ∧
    (reading [0x80#8, 0x00#8] 0).asm.rd.buf.drop 0 = 0x80#8 :: 0x00#8 :: [] ∧
    (reading [0x40#8, 0x00#8, 0xC0#8] 2).asm.rd.buf.length < 2 + 2 ∧
    (reading [] 0).asm.rd.buf.length < (reading [] 0).asm.rd.cur + 1 := by decide

theorem witness_SkipAndWaveformReads :
    (reading noteBytes 8).asm.rd.cur + 0 ≤ (reading noteBytes 8).asm.rd.buf.length ∧
    (reading noteBytes 8).asm.rd.buf.length < (reading noteBytes 8).asm.rd.cur + 1 ∧
    (reading (List.replicate 257 0#8) 1).asm.rd.cur + 256 ≤
      (reading (List.replicate 257 0#8) 1).asm.rd.buf.length ∧
    (reading (List.replicate 257 0#8) 2).asm.rd.buf.length <
      (reading (List.replicate 257 0#8) 2).asm.rd.cur + 256 := by decide +kernel

theorem witness_ShortReadsChangeNothing :
    readerWidth .readU32le = some 4 ∧
    (reading [0x01#8, 0x02#8, 0x03#8] 0).asm.rd.buf.length <
      (reading [0x01#8, 0x02#8, 0x03#8] 0).asm.rd.cur + 4 ∧
    (reading [0x01#8, 0x02#8, 0x03#8, 0x04#8] 0).asm.rd.cur + 4 ≤
      (reading [0x01#8, 0x02#8, 0x03#8, 0x04#8] 0).asm.rd.buf.length := by decide

theorem witness_SongHeaderWritesItsRegisters :
    magicOk (reading [] 0).asm.cfg 0x4E41452D5431#48 = true := by decide

theorem witness_BadMagicRaisesInvalidFormat :
    (∀ pat ∈ (reading [] 0).asm.cfg.magic,
      0x4E41452D5432#48 &&& pat.mask ≠ pat.value &&& pat.mask) ∧
    6 ≤ (List.replicate 6 0#8 : List Byte).length ∧
    (∀ pat ∈ tc.magic,
      magicAt (List.replicate 6 0#8) &&& pat.mask ≠ pat.value &&& pat.mask) := by decide

theorem tc_legal : cfgLegal tc = true := by decide

theorem witness_NoteSpeedIsFinite : cfgLegal tc = true := tc_legal

/-- Times at the top of their ranges (§3.2.4, last row). -/
theorem witness_BeatTimesAreCeilings :
    beatToSample { tc with sampleRate := 44100 } 255#8 4294967295 ≤ 48299054715923 ∧
    tc.sampleRate < 2 ^ 32 ∧ 4294967295 + 254 < 2 ^ 32 + 255 ∧
    { tc with sampleRate := 44100 }.sampleRate = 44100 := by decide

/-- One note on channel 0, none elsewhere. -/
theorem witness_ParseOfAssembledSong :
    magicOk tc 0x4E41452D5431#48 = true ∧
    ∀ i : Fin 16,
      ((Vector.replicate 16 (⟨1000#16, 0#8, 0#8, 0#16⟩ : InstrumentRec)).set 0
        ⟨1000#16, 0#8, 0#8, 1#16⟩)[i].noteCount.toNat =
      ((Vector.replicate 16 ([] : List NoteRec)).set 0
        [⟨2#32, 50#8, 3#8, 254#8, 127#8⟩])[i].length := by decide

theorem witness_WaveBankLayout :
    (List.replicate 25599 0x00#8 : List Byte).length < 25600 ∧
    25600 ≤ (List.replicate 25600 0x00#8 : List Byte).length := by
  simp only [List.length_replicate]; decide

theorem witness_DrumBufferLayout :
    [0x40#8, 0x00#8, 0xC0#8].length % 2 = 1 ∧
    [0x40#8, 0x00#8, 0xC0#8, 0x00#8].length % 2 = 0 ∧
    2 * 1 + 1 < [0x40#8, 0x00#8, 0xC0#8, 0x00#8].length ∧
    (∃ buf ∈ [[], [0x40#8, 0x00#8, 0xC0#8]], buf.length % 2 = 1) ∧
    (∀ buf ∈ [[], [0x40#8, 0x00#8]], buf.length % 2 = 0) ∧
    [[], [0x40#8, 0x00#8]][1]? = some [0x40#8, 0x00#8] := by decide

theorem witness_ConstructCommitsEverything :
    cfgLegal tc = true ∧ [[0x40#8, 0x00#8]].length = tc.numDrums ∧
    ∃ song wave drum, parse tc (emptySongIn 8#8) = .ok song ∧
      decodeWaveBank (List.replicate 25600 0#8) = .ok wave ∧
      decodeDrums [[0x40#8, 0x00#8]] = .ok drum ∧ validSong tc song = true := by
  obtain ⟨wave, hw⟩ :=
    ok_of_isOk (e := decodeWaveBank (List.replicate 25600 0#8)) (by decide +kernel)
  obtain ⟨drum, hd⟩ := ok_of_isOk (e := decodeDrums [[0x40#8, 0x00#8]]) (by decide +kernel)
  obtain ⟨song, hs⟩ := ok_of_isOk (e := parse tc (emptySongIn 8#8)) (by decide +kernel)
  refine ⟨tc_legal, by decide, song, wave, drum, hs, hw, hd, ?_⟩
  have h : (match parse tc (emptySongIn 8#8) with
    | .ok x => validSong tc x
    | .error _ => false) = true := by decide +kernel
  rwa [hs] at h

/-- One failure in each stage: a song cut to 112 bytes, a bank one byte short, an odd drum buffer,
and a drum index past the bank on channel 8 (its header at offset 65, one note). -/
theorem witness_FailedConstructChangesNothing :
    cfgLegal tc = true ∧ [([] : List Byte)].length = tc.numDrums ∧
    parse tc ((emptySongIn 8#8).take 112) = .error .truncatedInput ∧
    isOk (parse tc (emptySongIn 8#8)) = true ∧
    decodeWaveBank (List.replicate 25599 0#8) = .error .truncatedInput ∧
    isOk (decodeWaveBank (List.replicate 25600 0#8)) = true ∧
    decodeDrums [[0#8]] = .error .truncatedInput ∧
    (match parse tc (((emptySongIn 8#8).set 67 1#8).set 69 1#8 ++ noteBytes) with
      | .ok song => !validSong tc song
      | .error _ => false) = true := by
  exact ⟨tc_legal, by decide, error_of_failsWith (by decide +kernel), by decide +kernel,
    error_of_failsWith (by decide +kernel), by decide +kernel, rfl, by decide +kernel⟩

/-- Every class of R314, at its boundary lengths. The song of the fourth line lacks the last byte
of its one note. -/
theorem witness_ConstructOutcomeByPrecedence :
    cfgLegal tc = true ∧ [[0x40#8, 0x00#8]].length = tc.numDrums ∧
    earlyError tc (headerBytes.take 5) [] [[]] = some .truncatedInput ∧
    earlyError tc (List.replicate 6 0#8) [] [[]] = some .invalidFormat ∧
    earlyError tc ((emptySongIn 8#8).take 112) [] [[]] = some .truncatedInput ∧
    earlyError tc ((emptySongIn 8#8).set 21 1#8 ++ noteBytes.take 7) [] [[]] =
      some .invalidFormat ∧
    earlyError tc ((emptySongIn 8#8).set 21 1#8 ++ noteBytes) (List.replicate 25599 0#8) [[]] =
      some .truncatedInput ∧
    earlyError tc (emptySongIn 8#8) (List.replicate 25600 0#8) [[0#8]] = some .truncatedInput ∧
    earlyError tc (emptySongIn 8#8) (List.replicate 25600 0#8) [[]] = none := by decide +kernel

/-- Instrument index 100 and an octave of 8 on a melodic channel, a drum index past the bank, and a
song without notes. -/
theorem witness_ValidateRejectsExactlyTheListedIndices :
    (∃ song wave drum, parse tc (emptySongIn 8#8) = .ok song ∧
      decodeWaveBank (List.replicate 25600 0#8) = .ok wave ∧
      decodeDrums [[0x40#8, 0x00#8]] = .ok drum ∧ validSong tc song = true) ∧
    100 ≤ (100#8).toNat ∧ 96 ≤ (96 : Level).val ∧ tc.numDrums ≤ (1#8).toNat :=
  ⟨witness_ConstructCommitsEverything.2.2, by decide, by decide, by decide⟩

/-- SAMPLE_RATE 0, 2^32 − 1 and 2^32, NUM_DRUMS 256 and 257, a zero OCT_REPEAT, and an infinite entry
of each table. -/
theorem witness_RequestsOutsideTheInterfaceAreRefused :
    State.reset.mode = .unconstructed ∧ ¬ 1 ≤ { tc with sampleRate := 0 }.sampleRate ∧
    cfgLegal { tc with sampleRate := 4294967295 } = true ∧
    ¬ { tc with sampleRate := 4294967296 }.sampleRate < 2 ^ 32 ∧
    ¬ { tc with numDrums := 257 }.numDrums ≤ 256 ∧
    cfgLegal { tc with numDrums := 256 } = true ∧
    fIsZero { tc with octRepeat := tc.octRepeat.set 7 0#64 }.octRepeat[7] = true ∧
    fIsFinite { tc with
      freqTable := tc.freqTable.set 11 0x7ff0000000000000#64 }.freqTable[11] = false ∧
    fIsFinite { tc with
      octAdvance := tc.octAdvance.set 0 0xfff0000000000000#64 }.octAdvance[0] = false ∧
    [([] : List Byte)].length ≠ { tc with numDrums := 0 }.numDrums ∧
    cfgLegal { tc with numDrums := 0 } = true := by decide +kernel

theorem witness_ProduceSplitsAnywhere :
    (1#32).toNat + (1#32).toNat < 2 ^ 32 ∧
    (∃ v, exec (.produce (1#32 + 1#32)) (fresh 2) = .next v) ∧
    ∃ t u, exec (.produce 1#32) (fresh 2) = .next t ∧ exec (.produce 1#32) t = .next u := by
  have h2 : nextAnd (exec (.produce (1#32 + 1#32)) (fresh 2)) (fun _ => true) = true := by
    decide +kernel
  obtain ⟨v, hv, -⟩ := next_of_nextAnd h2
  have h : nextAnd (exec (.produce 1#32) (fresh 2)) (fun t =>
      nextAnd (exec (.produce 1#32) t) fun _ => true) = true := by decide +kernel
  obtain ⟨t, ht, h⟩ := next_of_nextAnd h
  obtain ⟨u, hu, -⟩ := next_of_nextAnd h
  exact ⟨by decide, ⟨v, hv⟩, t, u, ht, hu⟩

theorem step_fresh2 : ∃ t, exec .step (fresh 2) = .next t := by
  have h : nextAnd (exec .step (fresh 2)) (fun _ => true) = true := by decide +kernel
  obtain ⟨t, ht, -⟩ := next_of_nextAnd h
  exact ⟨t, ht⟩

/-- Channel 0 with an infinite offset, channel 8 sounding. -/
def runaway : State := demo false 2 ⟨0, 0x7ff0000000000000#64, 1⟩ ⟨0, 0#64, 1⟩

theorem step_runaway : exec .step runaway = .fault .nonFinitePosition :=
  fault_of_faultsWith (by decide +kernel)

theorem witness_ProduceReturnsItsFrames :
    (∃ t, exec (.produce 2#32) (fresh 2) = .next t) ∧ (fresh 2).mode = .constructed ∧
    (∃ t, exec .step (fresh 2) = .next t) ∧
    runaway.mode = .constructed ∧ 1#32 ≠ 0#32 ∧
    exec .step runaway = .fault .nonFinitePosition := by
  have h : nextAnd (exec (.produce 2#32) (fresh 2)) (fun _ => true) = true := by decide +kernel
  obtain ⟨t, ht, -⟩ := next_of_nextAnd h
  exact ⟨⟨t, ht⟩, rfl, step_fresh2, rfl, by decide, step_runaway⟩

/-- The invariant holds of the demo engine at any position. -/
theorem fresh_inv (p : Nat) : (fresh p).Inv where
  cfgLegal := tc_legal
  counts := by
    intro c; revert c
    show ∀ c : Fin 16, (demoSong false).inst[c].notes.length =
      (demoSong false).inst[c].noteCount.toNat
    decide
  sorted := by
    intro c; revert c
    show ∀ c : Fin 16, (demoSong false).inst[c].notes.Pairwise
      fun m n => m.startSample ≤ n.startSample
    decide
  windows := by
    show ∀ c : Fin 16, ∀ n ∈ (demoSong false).inst[c].notes, n.startSample ≤ n.endSample
    decide
  validated := by
    show validSong tc (demoSong false) = true
    decide
  waveValues := by
    intro w j
    by_cases h : w = 0
    · subst h
      exact ⟨rampBytes[j], by simp [fresh, demo, ramp]⟩
    · refine ⟨0#8, ?_⟩
      have h' : (0 : Nat) ≠ w.val := fun e => h (Fin.ext e.symm)
      have z : waveSample 0#8 = 0#64 := by decide +kernel
      simp [fresh, demo, WaveBank.empty, h', z]
  drumCount := by show 1 = 1; rfl
  drumEven := by
    show ∀ d ∈ [drum0], d.length % 2 = 0
    decide
  drumValues := by
    have a : drumValue 0x4000#16 = 0x3fe0002000400080#64 := by decide +kernel
    have b : drumValue 0xC000#16 = 0xbfe0002000400080#64 := by decide +kernel
    show ∀ d ∈ [drum0], ∀ v ∈ d, ∃ x, v = drumValue x
    intro d hd v hv
    obtain rfl := List.mem_singleton.mp hd
    have : v = drumValue 0x4000#16 ∨ v = drumValue 0xC000#16 := by
      rw [a, b]; simpa [drum0] using hv
    exact this.elim (fun h => ⟨_, h⟩) (fun h => ⟨_, h⟩)
  noteIndex := by
    show ∀ c : Fin 16,
      (((State.reset.ch.set 0 Channel.reset).set 8 Channel.reset)[c]).noteIndex ≤
      (demoSong false).inst[c].noteCount.toNat
    decide
  shortNote := by
    show ∀ c : Fin 16, isMelodic c = true → (demoSong false).inst[c].shortNoteFlag = true →
      (((State.reset.ch.set 0 Channel.reset).set 8 Channel.reset)[c]).samplesPlayed ≤ 257
    decide
  percOffset := by
    show ∀ c : Fin 16, isMelodic c = false →
      (((State.reset.ch.set 0 Channel.reset).set 8 Channel.reset)[c]).wavetableOffset = 0#64
    decide
  cursor := Nat.le_refl 0

/-- A magnitude bound from the bits. -/
theorem fWithin_of {k : Nat} {x : F64} (hf : fIsFinite x = true)
    (hm : fMag x ≤ 2 ^ (k + 1074)) : fWithin k x := by
  refine ⟨hf, ?_⟩
  have : ((fMag x : Nat) : ℚ) ≤ ((2 ^ (k + 1074) : Nat) : ℚ) := by exact_mod_cast hm
  calc ((fMag x : Nat) : ℚ) ≤ ((2 ^ (k + 1074) : Nat) : ℚ) := this
    _ = (2 : ℚ) ^ (((k : Int)) + 1074) := by
      rw [Nat.cast_pow, ← zpow_natCast]; norm_num

/-- The demo engine's values lie far inside the bounds. -/
theorem fresh_tame (p : Nat) : (fresh p).Tame where
  octRepeat := by
    have h : ∀ o : Fin 8, 2 ^ 874 ≤ fMag tc.octRepeat[o] := by decide +kernel
    intro o
    have := h o
    calc (2 : ℚ) ^ (-200 + 1074 : Int) = ((2 ^ 874 : Nat) : ℚ) := by
          rw [Nat.cast_pow, ← zpow_natCast]; norm_num
      _ ≤ _ := by exact_mod_cast this
  octAdvance := by
    have h : ∀ o : Fin 8, fIsFinite tc.octAdvance[o] = true ∧
      fMag tc.octAdvance[o] ≤ 2 ^ (200 + 1074) := by decide +kernel
    exact fun o => fWithin_of (k := 200) (h o).1 (h o).2
  speed := by
    have h : ∀ c : Fin 16, ∀ n ∈ (demoSong false).inst[c].notes, fIsFinite n.speed = true ∧
      fMag n.speed ≤ 2 ^ (500 + 1074) := by decide +kernel
    exact fun c n hn => fWithin_of (k := 500) (h c n hn).1 (h c n hn).2
  offset := by
    have h : ∀ c : Fin 16,
      fIsFinite ((State.reset.ch.set 0 Channel.reset).set 8 Channel.reset)[c].wavetableOffset = true ∧
      fMag ((State.reset.ch.set 0 Channel.reset).set 8 Channel.reset)[c].wavetableOffset ≤
        2 ^ (500 + 1074) := by decide +kernel
    exact fun c => fWithin_of (k := 500) (h c).1 (h c).2

theorem witness_ProduceCompletes :
    (fresh 2).mode = .constructed ∧ (fresh 2).Inv ∧ (fresh 2).Tame :=
  ⟨rfl, fresh_inv 2, fresh_tame 2⟩

/-- Under STREAM both notes are over; under SILENT channel 8's note is still current. -/
theorem witness_SilenceAfterTheLastNote :
    (demo false 7 ⟨1, 0#64, 0⟩ ⟨1, 0#64, 0⟩).mode = .constructed ∧
    (∀ c : Fin 16, (demo false 7 ⟨1, 0#64, 0⟩ ⟨1, 0#64, 0⟩).song.inst[c].noteCount.toNat ≤
      (demo false 7 ⟨1, 0#64, 0⟩ ⟨1, 0#64, 0⟩).ch[c].noteIndex) ∧
    (muted 7 ⟨1, 0#64, 0⟩).mode = .constructed ∧
    (∀ c : Fin 16, (c.val < 8 ∨ (muted 7 ⟨1, 0#64, 0⟩).cfg.percMode = .stream) →
      (muted 7 ⟨1, 0#64, 0⟩).song.inst[c].noteCount.toNat ≤
        (muted 7 ⟨1, 0#64, 0⟩).ch[c].noteIndex) ∧
    (muted 7 ⟨1, 0#64, 0⟩).ch[8].noteIndex <
      (muted 7 ⟨1, 0#64, 0⟩).song.inst[8].noteCount.toNat := by decide

theorem witness_StepIsItsOperations :
    (∃ t, exec .step (fresh 2) = .next t) ∧ exec .step runaway = .fault .nonFinitePosition :=
  ⟨step_fresh2, step_runaway⟩

/-- At offset +0.0 the read position of every note is finite. -/
theorem fresh_positions (p : Nat) : (fresh p).PositionsFinite := by
  have h0 : fIsFinite (readPosition tc 4 0#64) = true := by decide +kernel
  have ho : ∀ c : Fin 16, isMelodic c = true → ∀ n ∈ (demoSong false).inst[c].notes,
      n.octave = 4 := by decide
  have hch : ∀ c : Fin 16,
      ((State.reset.ch.set 0 Channel.reset).set 8 Channel.reset)[c].wavetableOffset = 0#64 := by
    decide
  intro c hc n hn _ _
  show fIsFinite (readPosition tc n.octave
    ((State.reset.ch.set 0 Channel.reset).set 8 Channel.reset)[c].wavetableOffset) = true
  rw [hch c, ho c hc n (List.mem_of_getElem? (currentNote_some hn).2)]
  exact h0

theorem witness_StepCompletes : (fresh 2).Inv ∧ (fresh 2).PositionsFinite :=
  ⟨fresh_inv 2, fresh_positions 2⟩

/-- No note left on channel 1; channel 0's note starts at 2. -/
theorem witness_MelodicVoiceWaits : Waiting (fresh 1) 1 ∧ Waiting (fresh 1) 0 :=
  ⟨.inl (by decide), .inr ⟨noteP1, by decide, by decide, by decide⟩⟩

theorem sounding_fresh2 : Sounding (fresh 2) 0 noteP1 := ⟨by decide, by decide, by decide⟩

/-- The first and the last sample of P1's note, the second of which ends it. -/
theorem witness_MelodicVoiceSounds :
    Sounding (fresh 2) 0 noteP1 ∧ Sounding (fresh 5) 0 noteP1 ∧
    (fresh 2).song.inst[0].shortNoteFlag = false ∧
    (4 : Fin 8).val = noteP1.pitch.val / 12 ∧
    (0 : Fin 100).val = (fresh 2).song.inst[0].instrumentIndex.toNat ∧
    fIsFinite (ffloor (fmul (fdiv (ffloor (fresh 2).ch[0].wavetableOffset)
      (fresh 2).cfg.octRepeat[4]) (fresh 2).cfg.octAdvance[4])) = true ∧
    ((0 : Fin 256).val : Int) = ⌊fValue 0#64⌋ % 256 := by
  refine ⟨sounding_fresh2, ⟨by decide, by decide, by decide⟩, by decide, by decide, by decide,
    by decide +kernel, ?_⟩
  have : fScaled 0#64 = 0 := by decide +kernel
  simp [fValue, this]

/-- samplesPlayed 256 is still open, 257 is closed; the note ends at p = 5. -/
theorem witness_ShortNoteGateCloses :
    Sounding (demo true 5 ⟨0, 0#64, 257⟩ Channel.reset) 0 noteP1 ∧
    (demo true 5 ⟨0, 0#64, 257⟩ Channel.reset).song.inst[0].shortNoteFlag = true ∧
    256 < (demo true 5 ⟨0, 0#64, 257⟩ Channel.reset).ch[0].samplesPlayed ∧
    (demo true 5 ⟨0, 0#64, 256⟩ Channel.reset).ch[0].samplesPlayed ≤ 256 :=
  ⟨⟨by decide, by decide, by decide⟩, by decide, by decide, by decide⟩

/-- Another channel sounds beside the one that faults. -/
theorem witness_NonFinitePositionFaults :
    Sounding runaway 0 noteP1 ∧ runaway.song.inst[0].shortNoteFlag = false ∧
    (4 : Fin 8).val = noteP1.pitch.val / 12 ∧
    fIsFinite (ffloor (fmul (fdiv (ffloor runaway.ch[0].wavetableOffset)
      runaway.cfg.octRepeat[4]) runaway.cfg.octAdvance[4])) = false ∧
    runaway.mode = .constructed ∧ 1#32 ≠ 0#32 ∧ Sounding runaway 8 noteP3 :=
  ⟨⟨by decide, by decide, by decide⟩, by decide, by decide, by decide +kernel, rfl, by decide,
    ⟨by decide, by decide, by decide⟩⟩

theorem witness_PercVoiceStreams :
    Waiting (fresh 0) 8 ∧
    Sounding (demo false 3 Channel.reset ⟨0, 0#64, 3⟩) 8 noteP3 ∧
    (fresh 3).drum[(fresh 3).song.inst[8].instrumentIndex.toNat]? = some drum0 ∧
    drum0[(demo false 3 Channel.reset ⟨0, 0#64, 3⟩).ch[8].samplesPlayed]? =
      some 0xbfe0002000400080#64 ∧
    Sounding (demo false 6 Channel.reset ⟨0, 0#64, 4⟩) 8 noteP3 ∧
    drum0.length ≤ (demo false 6 Channel.reset ⟨0, 0#64, 4⟩).ch[8].samplesPlayed ∧
    (fresh 0).cfg.percMode = .stream ∧ (muted 6 Channel.reset).cfg.percMode = .silent :=
  ⟨.inr ⟨noteP3, by decide, by decide, by decide⟩, ⟨by decide, by decide, by decide⟩, by decide,
    by decide, ⟨by decide, by decide, by decide⟩, by decide, rfl, rfl⟩

theorem witness_PercVoiceIsSilent :
    8 ≤ (8 : Fin 16).val ∧ (muted 6 Channel.reset).cfg.percMode = .silent ∧
    (∃ t, exec .step (muted 6 Channel.reset) = .next t) ∧
    ∃ t, exec (.produce 1#32) (muted 6 Channel.reset) = .next t := by
  have h : nextAnd (exec .step (muted 6 Channel.reset)) (fun _ => true) = true := by
    decide +kernel
  have k : nextAnd (exec (.produce 1#32) (muted 6 Channel.reset)) (fun _ => true) = true := by
    decide +kernel
  obtain ⟨t, ht, -⟩ := next_of_nextAnd h
  obtain ⟨u, hu, -⟩ := next_of_nextAnd k
  exact ⟨by decide, rfl, ⟨t, ht⟩, ⟨u, hu⟩⟩

theorem witness_VoiceStopsByName :
    8 ≤ (8 : Fin 16).val ∧ (7 : Fin 16).val < 8 ∧ (fresh 2).PositionFinite 0 ∧
    ¬ runaway.PositionFinite 0 :=
  ⟨by decide, by decide, fresh_positions 2 0 (by decide), fun h =>
    absurd (h noteP1 (by decide) (by decide) (by decide)) (by decide +kernel)⟩

/-- Another waveform bank, and a drum bank of silence with the lengths of the demo engine's, under a
STEP that completes, one that faults and a request that is refused. -/
theorem witness_SamplesNeverSteerTheSequencer :
    (∀ cfg a b d, Instr.step ≠ .construct cfg a b d) ∧ WaveBank.empty ≠ (fresh 2).wave ∧
    [List.replicate 4 0#64].map List.length = (fresh 2).drum.map List.length ∧
    [List.replicate 4 0#64].map List.length = runaway.drum.map List.length ∧
    (∃ t, exec .step (fresh 2) = .next t) ∧ exec .step runaway = .fault .nonFinitePosition ∧
    exec (.melodicVoice 8) (fresh 2) = .refused .channelKind := by
  refine ⟨fun _ _ _ _ => by simp, fun h => ?_, by decide, by decide, step_fresh2, step_runaway, rfl⟩
  have : (WaveBank.empty[0][1] == (fresh 2).wave[0][1]) = false := by decide +kernel
  rw [← h] at this
  simp at this

theorem witness_VoicesWriteTheirOwnChannelOnly :
    (∃ t, exec (.melodicVoice 0) (fresh 5) = .next t) ∧
    (∃ t, exec (.percVoiceStream 8) (fresh 5) = .next t) ∧
    (∃ t, exec (.percVoiceSilent 8) (fresh 5) = .next t) := by
  have h0 : nextAnd (exec (.melodicVoice 0) (fresh 5)) (fun _ => true) = true := by decide +kernel
  have h1 : nextAnd (exec (.percVoiceStream 8) (fresh 5)) (fun _ => true) = true := by
    decide +kernel
  have h2 : nextAnd (exec (.percVoiceSilent 8) (fresh 5)) (fun _ => true) = true := by
    decide +kernel
  obtain ⟨t0, e0, -⟩ := next_of_nextAnd h0
  obtain ⟨t1, e1, -⟩ := next_of_nextAnd h1
  obtain ⟨t2, e2, -⟩ := next_of_nextAnd h2
  exact ⟨⟨t0, e0⟩, ⟨t1, e1⟩, ⟨t2, e2⟩⟩

theorem witness_NoteIndexOnlyAdvances :
    (∃ t, exec .step (fresh 2) = .next t) ∧
    (fresh 2).ch[0].noteIndex ≤ (fresh 2).song.inst[0].noteCount.toNat :=
  ⟨step_fresh2, by decide⟩

/-- From p = 4 the note that ends at 5 stays current for one STEP and is over after two. -/
theorem witness_NotesArePlayedInSequence :
    (fresh 4).Inv ∧ (fresh 4).ch[0].noteIndex < (fresh 4).song.inst[0].noteCount.toNat ∧
    (fresh 4).song.inst[0].notes[(fresh 4).ch[0].noteIndex]? = some noteP1 ∧
    (∃ t, framesOn 1 (fresh 4) = .ok t) ∧ 1 ≤ max (fresh 4).p noteP1.endSample - (fresh 4).p ∧
    (∃ t, framesOn 2 (fresh 4) = .ok t) ∧
    2 = max (fresh 4).p noteP1.endSample - (fresh 4).p + 1 ∧
    (fresh 4).cfg.percMode = .stream :=
  ⟨fresh_inv 4, by decide, by decide, ok_of_isOk (by decide +kernel), by decide,
    ok_of_isOk (by decide +kernel), by decide, rfl⟩

/-- 1.0, −1.0, and the binary64 neighbours just outside. -/
theorem witness_LimiterRange :
    fIsFinite 0x3ff0000000000000#64 = true ∧ fIsFinite 0xbff0000000000000#64 = true ∧
    1 < fValue 0x3ff0000000000001#64 ∧ fValue 0xbff0000000000001#64 < -1 ∧
    fValue 0x3ff0000000000000#64 = 1 ∧ fValue 0xbff0000000000000#64 = -1 := by
  have a : fScaled 0x3ff0000000000001#64 = 2 ^ 1074 + 2 ^ 1022 := by decide +kernel
  have b : fScaled 0xbff0000000000001#64 = -(2 ^ 1074 + 2 ^ 1022) := by decide +kernel
  have c : fScaled 0x3ff0000000000000#64 = 2 ^ 1074 := by decide +kernel
  have d : fScaled 0xbff0000000000000#64 = -2 ^ 1074 := by decide +kernel
  refine ⟨by decide, by decide, ?_, ?_, ?_, ?_⟩ <;> unfold fValue
  · rw [a, lt_div_iff₀ (by positivity), one_mul, Int.cast_add]
    push_cast; exact lt_add_of_pos_right _ (by positivity)
  · rw [b, div_lt_iff₀ (by positivity), Int.cast_neg, Int.cast_add, neg_one_mul, neg_lt_neg_iff]
    push_cast; exact lt_add_of_pos_right _ (by positivity)
  · rw [c]; push_cast; exact div_self (by positivity)
  · rw [d]; push_cast; rw [neg_div, div_self (by positivity)]

theorem witness_FramesLieInRange :
    (fresh 2).Inv ∧ (∃ t, exec .step (fresh 2) = .next t) ∧
    ∃ t, exec (.produce 1#32) (fresh 2) = .next t ∧
      t.result = .frames [⟨0x3f000100#32, 0x3f000100#32⟩] := by
  have h : nextAnd (exec (.produce 1#32) (fresh 2)) (fun t =>
      decide (t.result = .frames [⟨0x3f000100#32, 0x3f000100#32⟩])) = true := by decide +kernel
  obtain ⟨t, ht, h⟩ := next_of_nextAnd h
  exact ⟨fresh_inv 2, step_fresh2, t, ht, of_decide_eq_true h⟩

/-- 1/3 is not a tie; 1 + 2^−53 is one; 0.1 is rounded to binary32. -/
theorem witness_RoundingIsToNearestEven :
    fIsFinite (rn64 false 1 3) = true ∧ 0 < 3 ∧
    fIsFinite (rn64 true 9007199254740993 9007199254740992) = true ∧
    0 < 9007199254740992 ∧ fIsFinite 0x3fb999999999999a#64 = true ∧
    f32IsFinite (rn32 0x3fb999999999999a#64) = true := by decide +kernel

/-- 1.0 and −0.1 as operands; −0.1 has floor −1; 2^53 converts. -/
theorem witness_ArithmeticIsCorrectlyRounded :
    fIsFinite 0x3ff0000000000000#64 = true ∧ fIsFinite 0xbfb999999999999a#64 = true ∧
    fIsFinite (fadd 0x3ff0000000000000#64 0xbfb999999999999a#64) = true ∧
    fIsFinite (fsub 0x3ff0000000000000#64 0xbfb999999999999a#64) = true ∧
    fIsFinite (fmul 0x3ff0000000000000#64 0xbfb999999999999a#64) = true ∧
    fIsZero 0xbfb999999999999a#64 = false ∧
    fIsFinite (fdiv 0x3ff0000000000000#64 0xbfb999999999999a#64) = true ∧
    ffloor 0xbfb999999999999a#64 = 0xbff0000000000000#64 ∧
    (9007199254740992 : Int).natAbs ≤ 9007199254740992 := by decide +kernel

/-- The largest finite binary64 doubled overflows, and rounds to an infinite binary32. -/
theorem witness_OverflowIsInfinity :
    0 < 1 ∧ fIsFinite (fadd 0x7fefffffffffffff#64 0x7fefffffffffffff#64) = false ∧
    fIsFinite (rn64 true (fMag 0x7fefffffffffffff#64) 1) = false ∧
    fIsFinite 0x7fefffffffffffff#64 = true ∧
    f32IsFinite (rn32 0x7fefffffffffffff#64) = false := by decide +kernel

theorem witness_EveryStepKeepsTheInvariant :
    (fresh 2).Inv ∧ ∃ t, step { fresh 2 with pending := [.call .step] } = .next t := by
  have h : nextAnd (step { fresh 2 with pending := [.call .step] }) (fun _ => true) = true := by
    decide +kernel
  obtain ⟨t, ht, -⟩ := next_of_nextAnd h
  exact ⟨fresh_inv 2, t, ht⟩

theorem witness_NoReadOutsideTheStores :
    (fresh 2).Inv ∧ Sounding (fresh 2) 0 noteP1 ∧ Sounding (fresh 2) 8 noteP3 ∧
    (fresh 2).cfg.percMode = .stream :=
  ⟨fresh_inv 2, sounding_fresh2, ⟨by decide, by decide, by decide⟩, rfl⟩

theorem witness_OnlyConstructWritesTheStores :
    ∃ t, exec .step (fresh 2) = .next t := step_fresh2

/-- Under SILENT: an odd drum buffer, a CONSTRUCT that succeeds, and a STEP of the song with a
percussion note. -/
theorem witness_SilentNeverReadsTheDrumBank :
    (∃ buf ∈ [[0x40#8, 0x00#8, 0xC0#8]], buf.length % 2 = 1) ∧
    cfgLegal { tc with percMode := .silent } = true ∧
    isOk (parse { tc with percMode := .silent } (emptySongIn 8#8)) = true ∧
    isOk (decodeWaveBank (List.replicate 25600 0#8)) = true ∧
    (∃ t, exec (.construct { tc with percMode := .silent } (emptySongIn 8#8)
      (List.replicate 25600 0#8) [[0x40#8, 0x00#8]]) State.reset = .next t ∧
      t.result = .constructed 0 8) ∧
    (muted 3 Channel.reset).cfg.percMode = .silent ∧
    (∃ t, exec .step (muted 3 Channel.reset) = .next t) ∧
    exec (.melodicVoice 8) (muted 3 Channel.reset) = .refused .channelKind ∧
    exec .step { runaway with cfg := { tc with percMode := .silent } } =
      .fault .nonFinitePosition := by
  have h : nextAnd (exec (.construct { tc with percMode := .silent } (emptySongIn 8#8)
      (List.replicate 25600 0#8) [[0x40#8, 0x00#8]]) State.reset)
      (fun t => decide (t.result = .constructed 0 8)) = true := by decide +kernel
  have k : nextAnd (exec .step (muted 3 Channel.reset)) (fun _ => true) = true := by
    decide +kernel
  obtain ⟨t, ht, h⟩ := next_of_nextAnd h
  obtain ⟨u, hu, -⟩ := next_of_nextAnd k
  exact ⟨by decide, by decide, by decide +kernel, by decide +kernel,
    ⟨t, ht, of_decide_eq_true h⟩, rfl, ⟨u, hu⟩, rfl, fault_of_faultsWith (by decide +kernel)⟩

end Sys2Proof.Tests
end

section
/-! SUPPORT. Magnitudes of a binary format: the value of magnitude bits, and `roundMag` as the nearest
of them (R20), for every number of fraction bits and every least value. -/

namespace Sys2Proof.Machine

/-- The value of the magnitude bits `m` of a binary format with `frac` fraction bits, in units of
its least positive value. -/
def magValue (frac m : Nat) : Nat :=
  (if m / 2 ^ frac = 0 then m % 2 ^ frac else m % 2 ^ frac + 2 ^ frac) *
    2 ^ (max (m / 2 ^ frac) 1 - 1)

/-- `t` exponent steps and a significand `q`, normal or at `t = 0`, give `q · 2^t`; a significand
that carries into the next exponent is included. -/
theorem magValue_steps {frac t q : Nat} (hq : q ≤ 2 ^ (frac + 1)) (hn : t = 0 ∨ 2 ^ frac ≤ q) :
    magValue frac (t * 2 ^ frac + q) = q * 2 ^ t := by
  have hpos : 0 < 2 ^ frac := by positivity
  have hdiv : (t * 2 ^ frac + q) / 2 ^ frac = t + q / 2 ^ frac := by
    rw [Nat.add_comm, Nat.add_mul_div_right _ _ hpos, Nat.add_comm]
  have hmod : (t * 2 ^ frac + q) % 2 ^ frac = q % 2 ^ frac := Nat.mul_add_mod_self_right t _ q
  rw [magValue, hdiv, hmod]
  obtain hsub | hnorm | hcarry : q < 2 ^ frac ∨ (2 ^ frac ≤ q ∧ q < 2 * 2 ^ frac) ∨
      q = 2 * 2 ^ frac := by omega
  · obtain rfl : t = 0 := by omega
    simp [Nat.div_eq_of_lt hsub, Nat.mod_eq_of_lt hsub]
  · have h1 : q / 2 ^ frac = 1 := Nat.div_eq_of_lt_le (by omega) (by omega)
    have h2 : q % 2 ^ frac = q - 2 ^ frac := by
      rw [Nat.mod_eq_sub_mod hnorm.1, Nat.mod_eq_of_lt (by omega)]
    rw [h1, h2, if_neg (by omega), Nat.sub_add_cancel hnorm.1]
    simp
  · rw [hcarry, Nat.mul_mod_left, Nat.mul_div_cancel _ hpos, if_neg (by omega)]
    rw [show max (t + 2) 1 - 1 = t + 1 by omega]
    ring

/-- Every magnitude is some exponent steps and a significand. -/
theorem exists_steps (frac m : Nat) :
    ∃ t q, m = t * 2 ^ frac + q ∧ q < 2 ^ (frac + 1) ∧ (t = 0 ∨ 2 ^ frac ≤ q) := by
  have hpos : 0 < 2 ^ frac := by positivity
  have hm := Nat.div_add_mod' m (2 ^ frac)
  have hlt := Nat.mod_lt m hpos
  cases h : m / 2 ^ frac with
  | zero => exact ⟨0, m, by omega, by rw [h] at hm; omega, .inl rfl⟩
  | succ t =>
    rw [h, Nat.add_mul] at hm
    exact ⟨t, m % 2 ^ frac + 2 ^ frac, by omega, by omega, .inr (by omega)⟩

theorem magValue_strictMono (frac : Nat) : StrictMono (magValue frac) := by
  refine strictMono_nat_of_lt_succ fun m => ?_
  obtain ⟨t, q, rfl, hq, hn⟩ := exists_steps frac m
  rw [Nat.add_assoc, magValue_steps (by omega) hn, magValue_steps (by omega) (by omega)]
  exact Nat.mul_lt_mul_of_pos_right (Nat.lt_succ_self q) (by positivity)

@[simp] theorem magValue_zero (frac : Nat) : magValue frac 0 = 0 := by simp [magValue]

/-- A significand of at most `frac + 1` bits, or the power of two after them, is the value of some
bits at every exponent step. -/
theorem exists_magValue_eq (frac t : Nat) :
    ∀ q, q ≤ 2 ^ (frac + 1) → ∃ m, magValue frac m = q * 2 ^ t := by
  induction t with
  | zero => exact fun q hq => ⟨0 * 2 ^ frac + q, magValue_steps hq (.inl rfl)⟩
  | succ t ih =>
    intro q hq
    by_cases hn : 2 ^ frac ≤ q
    · exact ⟨_, magValue_steps hq (.inr hn)⟩
    · obtain ⟨m, hm⟩ := ih (2 * q) (by omega)
      exact ⟨m, by rw [hm]; ring⟩

/-! ### The rounding -/

/-- No magnitude is nearer to `x` than the one of the bits `m`, and where another is as near, `m` is
even. -/
def NearestMag (frac m : Nat) (x : ℚ) : Prop :=
  ∀ k, |(magValue frac m : ℚ) - x| ≤ |(magValue frac k : ℚ) - x| ∧
    (|(magValue frac m : ℚ) - x| = |(magValue frac k : ℚ) - x| → k ≠ m → m % 2 = 0)

/-- `roundMag` before its bound `top`, of a numerator already in units of the least value. -/
def nearestMag (frac n den : Nat) : Nat :=
  let t := Nat.log2 (n / den) - frac
  let u := den * 2 ^ t
  let q := n / u
  let r := n % u
  let q' := if u < 2 * r ∨ (2 * r = u ∧ q % 2 = 1) then q + 1 else q
  t * 2 ^ frac + q'

theorem roundMag_eq_min (frac unit top num den : Nat) :
    roundMag frac unit top num den =
      min (nearestMag frac (num * 2 ^ unit) den) (top * 2 ^ frac) := rfl

theorem roundMag_le (frac unit top num den : Nat) :
    roundMag frac unit top num den ≤ top * 2 ^ frac := min_le_right _ _

/-- The significand of the quotient at its exponent step. -/
theorem significand_bounds (frac n den : Nat) :
    n / (den * 2 ^ (Nat.log2 (n / den) - frac)) < 2 ^ (frac + 1) ∧
    (Nat.log2 (n / den) - frac = 0 ∨
      2 ^ frac ≤ n / (den * 2 ^ (Nat.log2 (n / den) - frac))) := by
  rw [← Nat.div_div_eq_div_mul]
  have hlt : n / den < 2 ^ (Nat.log2 (n / den) + 1) := Nat.lt_log2_self
  generalize ht : Nat.log2 (n / den) - frac = t
  constructor
  · rw [Nat.div_lt_iff_lt_mul (by positivity), ← pow_add]
    exact hlt.trans_le (Nat.pow_le_pow_right two_pos (by omega))
  · refine or_iff_not_imp_left.mpr fun h0 => ?_
    have hne : n / den ≠ 0 := fun h => by simp [h] at ht; omega
    rw [Nat.le_div_iff_mul_le (by positivity), ← pow_add]
    exact (Nat.pow_le_pow_right two_pos (by omega)).trans (Nat.log2_self_le hne)

/-- The nearer of the two neighbours of `x`, on a tie the even one, is the nearest of all. -/
theorem nearestMag_of_neighbours {frac l m : Nat} {x : ℚ} (hlo : (magValue frac l : ℚ) ≤ x)
    (hhi : x ≤ magValue frac (l + 1))
    (hm : (m = l ∧ x - magValue frac l ≤ magValue frac (l + 1) - x) ∨
      (m = l + 1 ∧ magValue frac (l + 1) - x ≤ x - magValue frac l))
    (htie : x - magValue frac l = magValue frac (l + 1) - x → m % 2 = 0) :
    NearestMag frac m x := by
  intro k
  have hinj {i j : Nat} (h : (magValue frac i : ℚ) = magValue frac j) : i = j :=
    (magValue_strictMono frac).injective (Nat.cast_injective h)
  obtain hk | hk := Nat.lt_or_ge l k
  · have hv : (magValue frac (l + 1) : ℚ) ≤ magValue frac k :=
      mod_cast (magValue_strictMono frac).monotone hk
    rw [abs_of_nonneg (a := (magValue frac k : ℚ) - x) (by linarith)]
    obtain ⟨rfl, hle⟩ | ⟨rfl, hle⟩ := hm
    · rw [abs_of_nonpos (by linarith)]
      exact ⟨by linarith, fun heq _ => htie (by linarith)⟩
    · rw [abs_of_nonneg (by linarith)]
      exact ⟨by linarith, fun heq hne => absurd (hinj (by linarith)) hne⟩
  · have hv : (magValue frac k : ℚ) ≤ magValue frac l :=
      mod_cast (magValue_strictMono frac).monotone hk
    rw [abs_of_nonpos (a := (magValue frac k : ℚ) - x) (by linarith)]
    obtain ⟨rfl, hle⟩ | ⟨rfl, hle⟩ := hm
    · rw [abs_of_nonpos (by linarith)]
      exact ⟨by linarith, fun heq hne => absurd (hinj (by linarith)) hne⟩
    · rw [abs_of_nonneg (by linarith)]
      exact ⟨by linarith, fun heq _ => htie (by linarith)⟩

/-- `nearestMag` chooses between the two neighbours of the exact quotient: with `q` the significand
and `r` the remainder of the division by the spacing `u`, the distances to them are `r / den` and
`(u − r) / den`. -/
theorem nearestMag_nearest {frac : Nat} (hf : 0 < frac) (n : Nat) {den : Nat} (hden : 0 < den) :
    NearestMag frac (nearestMag frac n den) (n / den) := by
  obtain ⟨hq, hn⟩ := significand_bounds frac n den
  rw [nearestMag]
  generalize Nat.log2 (n / den) - frac = t at hq hn ⊢
  have hdiv := Nat.div_add_mod n (den * 2 ^ t)
  have hr := Nat.mod_lt n (show 0 < den * 2 ^ t by positivity)
  generalize n / (den * 2 ^ t) = q at hq hn hdiv ⊢
  generalize n % (den * 2 ^ t) = r at hr hdiv ⊢
  have hparity : (t * 2 ^ frac + q) % 2 = q % 2 := by
    obtain ⟨f, rfl⟩ := Nat.exists_eq_succ_of_ne_zero hf.ne'
    rw [Nat.pow_succ, ← Nat.mul_assoc]; omega
  have hd : (0 : ℚ) < den := mod_cast hden
  have hlo : (n : ℚ) / den - magValue frac (t * 2 ^ frac + q) = (r : Nat) / den := by
    rw [magValue_steps (by omega) hn, ← hdiv]
    field_simp; push_cast; ring
  have hhi : (magValue frac (t * 2 ^ frac + q + 1) : ℚ) - n / den =
      (den * 2 ^ t - r : Nat) / den := by
    rw [Nat.add_assoc, magValue_steps (by omega) (by omega), Nat.cast_sub hr.le, ← hdiv]
    field_simp; push_cast; ring
  have hlo0 : (0 : ℚ) ≤ (r : Nat) / den := by positivity
  have hhi0 : (0 : ℚ) ≤ (den * 2 ^ t - r : Nat) / den := by positivity
  refine nearestMag_of_neighbours (l := t * 2 ^ frac + q) (by linarith) (by linarith) ?_ ?_ <;>
    rw [hlo, hhi]
  · rw [div_le_div_iff_of_pos_right hd, div_le_div_iff_of_pos_right hd, Nat.cast_le, Nat.cast_le]
    split
    · exact .inr ⟨rfl, by omega⟩
    · exact .inl ⟨rfl, by omega⟩
  · rw [div_left_inj' hd.ne', Nat.cast_inj]
    split <;> omega

/-- A value that is exactly a magnitude rounds to that magnitude. -/
theorem NearestMag.eq_of_exact {frac m k : Nat} (h : NearestMag frac m (magValue frac k)) :
    m = k := by
  have hle := (h k).1
  rw [sub_self, abs_zero, abs_nonpos_iff, sub_eq_zero, Nat.cast_inj] at hle
  exact (magValue_strictMono frac).injective hle

/-- The middle above an odd magnitude belongs to the even one above it. -/
theorem NearestMag.le_iff_of_odd {frac m b : Nat} {x : ℚ} (h : NearestMag frac m x)
    (hb : b % 2 = 1) :
    m ≤ b ↔ x < ((magValue frac b : ℚ) + magValue frac (b + 1)) / 2 := by
  have hlt : (magValue frac b : ℚ) < magValue frac (b + 1) :=
    mod_cast magValue_strictMono frac b.lt_succ_self
  constructor
  · intro hm
    by_contra! hx
    have hv : (magValue frac m : ℚ) ≤ magValue frac b :=
      mod_cast (magValue_strictMono frac).monotone hm
    obtain ⟨hle, htie⟩ := h (b + 1)
    have hup : |(magValue frac (b + 1) : ℚ) - x| ≤ x - magValue frac b :=
      abs_le.mpr ⟨by linarith, by linarith⟩
    rw [abs_of_neg (by linarith)] at hle htie
    have hmb : (magValue frac m : ℚ) = magValue frac b := by linarith
    obtain rfl := (magValue_strictMono frac).injective (Nat.cast_injective hmb)
    have := htie (by linarith) (by omega)
    omega
  · intro hx
    by_contra! hm
    have hv : (magValue frac (b + 1) : ℚ) ≤ magValue frac m :=
      mod_cast (magValue_strictMono frac).monotone hm
    have hlow : |(magValue frac b : ℚ) - x| < magValue frac (b + 1) - x :=
      abs_lt.mpr ⟨by linarith, by linarith⟩
    have hle := (h b).1
    rw [abs_of_pos (by linarith)] at hle
    linarith

/-! ### The greatest finite magnitude and the one after it -/

theorem magValue_top (frac s : Nat) :
    magValue frac ((s + 2) * 2 ^ frac) = 2 ^ (frac + 1) * 2 ^ s := by
  rw [← magValue_steps le_rfl (.inr (Nat.pow_le_pow_right two_pos frac.le_succ))]
  congr 1; ring

/-- A value of few bits at an exponent step before the last is finite. -/
theorem lt_top_of_magValue {frac s t q m : Nat} (hm : magValue frac m = q * 2 ^ t)
    (hq : q ≤ 2 ^ (frac + 1)) (ht : t < s) : m < (s + 2) * 2 ^ frac := by
  rw [← (magValue_strictMono frac).lt_iff_lt, hm, magValue_top]
  exact Nat.mul_lt_mul_of_le_of_lt hq (Nat.pow_lt_pow_right one_lt_two ht) (by positivity)

theorem magValue_top_sub_one (frac s : Nat) :
    magValue frac ((s + 2) * 2 ^ frac - 1) = (2 ^ (frac + 1) - 1) * 2 ^ s := by
  have hpos : 0 < 2 ^ frac := by positivity
  have hsplit : (s + 2) * 2 ^ frac - 1 = s * 2 ^ frac + (2 ^ (frac + 1) - 1) := by
    rw [Nat.add_mul, pow_succ]; omega
  rw [hsplit, magValue_steps (by omega) (.inr (by rw [pow_succ]; omega))]

theorem top_sub_one_odd {frac : Nat} (hf : 0 < frac) (s : Nat) :
    ((s + 2) * 2 ^ frac - 1) % 2 = 1 := by
  obtain ⟨f, rfl⟩ := Nat.exists_eq_succ_of_ne_zero hf.ne'
  have hpos : 0 < (s + 2) * 2 ^ f := by positivity
  rw [Nat.pow_succ, ← Nat.mul_assoc]; omega

/-! ### `roundMag` -/

section
variable {frac unit top num den : Nat} (hf : 0 < frac) (hden : 0 < den)
include hf hden

/-- Below the bound, `roundMag` is the nearest magnitude. -/
theorem roundMag_nearest (hlt : roundMag frac unit top num den < top * 2 ^ frac) :
    NearestMag frac (roundMag frac unit top num den) ((num : ℚ) / den * 2 ^ unit) := by
  rw [roundMag_eq_min] at hlt ⊢
  rw [min_eq_left (by omega)]
  convert nearestMag_nearest hf (num * 2 ^ unit) hden using 1
  push_cast; ring

/-- A quotient that is the value of some bits has these bits as its rounding. -/
theorem roundMag_exact {k : Nat} (hk : num * 2 ^ unit = magValue frac k * den)
    (hlt : k < top * 2 ^ frac) : roundMag frac unit top num den = k := by
  have h := nearestMag_nearest hf (num * 2 ^ unit) hden
  rw [hk, Nat.cast_mul, mul_div_cancel_right₀ _ (by positivity)] at h
  rw [roundMag_eq_min, hk, h.eq_of_exact, min_eq_left hlt.le]

/-- Overflow begins in the middle between the greatest finite value and the next power of two: `2^b`
below that power, which is `2^a`. -/
theorem roundMag_lt_iff {a b : Nat} (ha : frac + top = a + unit + 1) (hb : top = b + unit + 3) :
    roundMag frac unit top num den < top * 2 ^ frac ↔ (num : ℚ) / den < 2 ^ a - 2 ^ b := by
  obtain rfl : a = frac + b + 2 := by omega
  have hpos : 0 < top * 2 ^ frac := by rw [hb]; positivity
  have hsucc : top * 2 ^ frac - 1 + 1 = top * 2 ^ frac := by omega
  have hmiddle := (nearestMag_nearest hf (num * 2 ^ unit) hden).le_iff_of_odd
    (b := top * 2 ^ frac - 1) (hb ▸ top_sub_one_odd hf (b + unit + 1))
  rw [hsucc, hb, magValue_top_sub_one, magValue_top, ← hb] at hmiddle
  have hquot : ((num * 2 ^ unit : Nat) : ℚ) / den = num / den * 2 ^ unit := by push_cast; ring
  have hmid : ((((2 ^ (frac + 1) - 1) * 2 ^ (b + unit + 1) : Nat) : ℚ) +
      ((2 ^ (frac + 1) * 2 ^ (b + unit + 1) : Nat) : ℚ)) / 2 =
        (2 ^ (frac + b + 2) - 2 ^ b) * 2 ^ unit := by
    push_cast [Nat.cast_sub (Nat.one_le_two_pow (n := frac + 1))]
    ring
  rw [hquot, hmid, mul_lt_mul_iff_left₀ (by positivity)] at hmiddle
  rw [roundMag_eq_min, ← Nat.le_sub_one_iff_lt hpos, min_le_iff, or_iff_left (by omega), hmiddle]

end

end Sys2Proof.Machine
end

section
/-! SUPPORT. Bit patterns made of a sign and magnitude bits, and their values, for every width. -/

namespace Sys2Proof.Machine

/-- The bits below the sign. -/
def magBits {w : Nat} (x : BitVec (w + 1)) : Nat := x.toNat % 2 ^ w

/-- The bit pattern of a sign and magnitude bits. -/
def ofMag (w : Nat) (neg : Bool) (m : Nat) : BitVec (w + 1) :=
  BitVec.ofNat (w + 1) ((if neg then 2 ^ w else 0) + m)

section
variable {w m : Nat} (hm : m < 2 ^ w) (neg : Bool)
include hm

theorem toNat_ofMag : (ofMag w neg m).toNat = (if neg then 2 ^ w else 0) + m := by
  rw [ofMag, BitVec.toNat_ofNat, Nat.mod_eq_of_lt]
  rw [Nat.pow_succ]; split <;> omega

theorem magBits_ofMag : magBits (ofMag w neg m) = m := by
  rw [magBits, toNat_ofMag hm]
  cases neg
  · simpa using Nat.mod_eq_of_lt hm
  · simpa using Nat.mod_eq_of_lt hm

theorem msb_ofMag : (ofMag w neg m).msb = neg := by
  rw [BitVec.msb_eq_decide, toNat_ofMag hm]
  cases neg
  · simpa using hm
  · simp

theorem toNat_ofMag_mod_two (hw : 0 < w) : (ofMag w neg m).toNat % 2 = m % 2 := by
  obtain ⟨v, rfl⟩ := Nat.exists_eq_succ_of_ne_zero hw.ne'
  rw [toNat_ofMag hm, Nat.pow_succ]
  split <;> omega

end

/-- A value with a sign. -/
def signed (neg : Bool) (v : ℚ) : ℚ := if neg then -v else v

theorem signed_eq_mul (neg : Bool) (v : ℚ) : signed neg v = (if neg then -1 else 1) * v := by
  cases neg <;> simp [signed]

theorem signed_zero (neg : Bool) : signed neg 0 = 0 := by rw [signed_eq_mul, mul_zero]

theorem signed_div (neg : Bool) (v d : ℚ) : signed neg (v / d) = signed neg v / d := by
  rw [signed_eq_mul, signed_eq_mul, mul_div_assoc]

theorem signed_mul_signed (a b : Bool) (v w : ℚ) :
    signed a v * signed b w = signed (a != b) (v * w) := by
  cases a <;> cases b <;> simp [signed]

theorem signed_div_signed (a b : Bool) (v w : ℚ) :
    signed a v / signed b w = signed (a != b) (v / w) := by
  cases a <;> cases b <;> simp [signed, neg_div, div_neg]

theorem signed_natAbs (z : Int) : signed (decide (z < 0)) z.natAbs = z := by
  rw [Nat.cast_natAbs, signed]
  by_cases h : z < 0
  · rw [if_pos (decide_eq_true h), abs_of_neg h, Int.cast_neg, neg_neg]
  · rw [if_neg (by simpa using h), abs_of_nonneg (not_lt.mp h)]

/-- Equal signs leave the distance of the magnitudes. -/
theorem abs_signed_sub_signed (neg : Bool) (v x : ℚ) :
    |signed neg v - signed neg x| = |v - x| := by
  cases neg
  · rfl
  · rw [signed, signed, if_pos rfl, if_pos rfl, ← abs_neg]; congr 1; ring

/-- Opposite signs add the magnitudes. -/
theorem abs_signed_not_sub_signed (neg : Bool) {v x : ℚ} (hv : 0 ≤ v) (hx : 0 ≤ x) :
    |signed (!neg) v - signed neg x| = v + x := by
  cases neg
  · simp only [signed, Bool.not_false, if_true, Bool.false_eq_true, if_false]
    rw [abs_of_nonpos (by linarith)]; ring
  · simp only [signed, Bool.not_true, if_true, Bool.false_eq_true, if_false]
    rw [abs_of_nonneg (by linarith)]; ring

/-- The value of a bit pattern in the format of `frac` fraction bits and least value `2^−unit`. -/
def bitValue (frac unit : Nat) {w : Nat} (x : BitVec (w + 1)) : ℚ :=
  signed x.msb (magValue frac (magBits x) / 2 ^ unit)

theorem bitValue_ofMag (frac unit : Nat) {w m : Nat} (hm : m < 2 ^ w) (neg : Bool) :
    bitValue frac unit (ofMag w neg m) = signed neg (magValue frac m / 2 ^ unit) := by
  rw [bitValue, msb_ofMag hm, magBits_ofMag hm]

/-- Being nearest does not depend on the unit. -/
theorem NearestMag.div_unit {frac m : Nat} {x : ℚ} (unit : Nat)
    (h : NearestMag frac m (x * 2 ^ unit)) (k : Nat) :
    |(magValue frac m : ℚ) / 2 ^ unit - x| ≤ |(magValue frac k : ℚ) / 2 ^ unit - x| ∧
    (|(magValue frac m : ℚ) / 2 ^ unit - x| = |(magValue frac k : ℚ) / 2 ^ unit - x| →
      k ≠ m → m % 2 = 0) := by
  have hU : (0 : ℚ) < 2 ^ unit := by positivity
  have hdist (i : Nat) : |(magValue frac i : ℚ) / 2 ^ unit - x| =
      |(magValue frac i : ℚ) - x * 2 ^ unit| / 2 ^ unit := by
    rw [div_sub' hU.ne', abs_div, abs_of_pos hU, mul_comm]
  rw [hdist, hdist, div_le_div_iff_of_pos_right hU, div_left_inj' hU.ne']
  exact h k

/-- A nearest magnitude with the sign of the exact value is nearest among the signed values: one of
the other sign is no nearer than zero. -/
theorem NearestMag.ofMag_nearest {frac m : Nat} {x : ℚ} (unit : Nat)
    (h : NearestMag frac m (x * 2 ^ unit)) (hx : 0 ≤ x) {w : Nat} (hm : m < 2 ^ w) (neg : Bool)
    (y : BitVec (w + 1)) :
    |bitValue frac unit (ofMag w neg m) - signed neg x| ≤ |bitValue frac unit y - signed neg x| ∧
    (|bitValue frac unit (ofMag w neg m) - signed neg x| = |bitValue frac unit y - signed neg x| →
      bitValue frac unit y ≠ bitValue frac unit (ofMag w neg m) → m % 2 = 0) := by
  have hnear := h.div_unit unit
  rw [bitValue_ofMag frac unit hm, abs_signed_sub_signed, bitValue]
  by_cases hsign : y.msb = neg
  · rw [hsign, abs_signed_sub_signed]
    exact ⟨(hnear _).1, fun htie hne => (hnear _).2 htie fun heq => hne (by rw [heq])⟩
  · have hy : (0 : ℚ) ≤ magValue frac (magBits y) / 2 ^ unit := by positivity
    obtain ⟨hle, htie⟩ := hnear 0
    rw [magValue_zero, Nat.cast_zero, zero_div, zero_sub, abs_neg, abs_of_nonneg hx] at hle htie
    rw [Bool.eq_not_of_ne hsign, abs_signed_not_sub_signed neg hy hx]
    refine ⟨by linarith, fun heq hne => htie (by linarith) fun h0 => hne ?_⟩
    have hyz : (magValue frac (magBits y) : ℚ) / 2 ^ unit = 0 := by linarith
    rw [hyz, ← h0, magValue_zero, Nat.cast_zero, zero_div, signed_zero, signed_zero]

end Sys2Proof.Machine
end

section
/-! SUPPORT. binary64 and binary32 as such patterns, and the operations of R20 on finite operands. -/

namespace Sys2Proof.Machine

/-! ### binary64 and binary32 in these words -/

theorem fExp_eq (x : F64) : fExp x = magBits x / 2 ^ 52 := by
  rw [fExp, magBits, BitVec.extractLsb'_toNat, Nat.shiftRight_eq_div_pow]
  omega

theorem fFrac_eq (x : F64) : fFrac x = magBits x % 2 ^ 52 := by
  rw [fFrac, magBits, BitVec.extractLsb'_toNat, Nat.shiftRight_zero]
  omega

theorem fMag_eq (x : F64) : fMag x = magValue 52 (magBits x) := by
  rw [fMag, fExp_eq, fFrac_eq, magValue]

theorem fIsFinite_iff (x : F64) : fIsFinite x = true ↔ magBits x < 2047 * 2 ^ 52 := by
  have hlt : magBits x < 2 ^ 63 := Nat.mod_lt _ (by norm_num)
  rw [fIsFinite, bne_iff_ne, fExp_eq]
  omega

/-- A finite binary64 is not a NaN. -/
theorem fIsNaN_of_finite {x : F64} (h : fIsFinite x = true) : fIsNaN x = false := by
  rw [fIsFinite, bne_iff_ne] at h
  simp [fIsNaN, h]

/-- A finite binary64 is not infinite. -/
theorem fIsInf_of_finite {x : F64} (h : fIsFinite x = true) : fIsInf x = false := by
  rw [fIsFinite, bne_iff_ne] at h
  simp [fIsInf, h]

theorem fScaled_eq (x : F64) : (fScaled x : ℚ) = signed (fNeg x) (fMag x) := by
  rw [fScaled, signed]
  split <;> push_cast <;> rfl

theorem fValue_eq_signed (x : F64) : fValue x = signed (fNeg x) (fMag x / 2 ^ 1074) := by
  rw [fValue, fScaled_eq, signed_eq_mul, signed_eq_mul, mul_div_assoc]

theorem fValue_eq (x : F64) : fValue x = bitValue 52 1074 x := by
  rw [fValue_eq_signed, fMag_eq, bitValue, fNeg]

theorem f64OfMag_eq (neg : Bool) (m : Nat) : f64OfMag neg m = ofMag 63 neg m := rfl

theorem f32IsFinite_iff (x : F32) : f32IsFinite x = true ↔ magBits x < 255 * 2 ^ 23 := by
  have hlt : magBits x < 2 ^ 31 := Nat.mod_lt _ (by norm_num)
  rw [f32IsFinite, bne_iff_ne, BitVec.extractLsb'_toNat, Nat.shiftRight_eq_div_pow]
  rw [magBits] at hlt ⊢
  omega

theorem f32Value_eq (x : F32) : f32Value x = bitValue 23 149 x := by
  have he : (x.extractLsb' 23 8).toNat = magBits x / 2 ^ 23 := by
    rw [magBits, BitVec.extractLsb'_toNat, Nat.shiftRight_eq_div_pow]; omega
  have hf : (x.extractLsb' 0 23).toNat = magBits x % 2 ^ 23 := by
    rw [magBits, BitVec.extractLsb'_toNat, Nat.shiftRight_zero]; omega
  rw [f32Value, he, hf, bitValue, signed, magValue]

/-- RN32 of a finite binary64. -/
theorem rn32_eq {x : F64} (h : fIsFinite x = true) :
    rn32 x = ofMag 31 (fNeg x) (roundMag 23 149 255 (fMag x) (2 ^ 1074)) := by
  simp only [rn32, fIsNaN_of_finite h, fIsInf_of_finite h, Bool.false_eq_true, if_false, ofMag]

theorem rn64_finite_iff (neg : Bool) (num den : Nat) :
    fIsFinite (rn64 neg num den) = true ↔ roundMag 52 1074 2047 num den < 2047 * 2 ^ 52 := by
  have := roundMag_le 52 1074 2047 num den
  rw [fIsFinite_iff, rn64, f64OfMag_eq, magBits_ofMag (by omega)]

/-- RN64 overflows from the middle past the greatest finite binary64 on. -/
theorem rn64_finite_iff_lt (neg : Bool) {num den : Nat} (hden : 0 < den) :
    fIsFinite (rn64 neg num den) = true ↔ (num : ℚ) / den < 2 ^ 1024 - 2 ^ 970 :=
  (rn64_finite_iff neg num den).trans (roundMag_lt_iff (by norm_num) hden rfl rfl)

/-- RN64 overflows to the infinity of the sign. -/
theorem rn64_of_overflow {neg : Bool} {num den : Nat}
    (hinf : fIsFinite (rn64 neg num den) = false) :
    rn64 neg num den = if neg then 0xfff0000000000000#64 else 0x7ff0000000000000#64 := by
  rw [← Bool.not_eq_true, rn64_finite_iff] at hinf
  rw [rn64, (roundMag_le ..).antisymm (not_lt.mp hinf)]
  cases neg <;> rfl

theorem rn32_finite_iff {x : F64} (h : fIsFinite x = true) :
    f32IsFinite (rn32 x) = true ↔ roundMag 23 149 255 (fMag x) (2 ^ 1074) < 255 * 2 ^ 23 := by
  have := roundMag_le 23 149 255 (fMag x) (2 ^ 1074)
  rw [f32IsFinite_iff, rn32_eq h, magBits_ofMag (by omega)]

theorem abs_fValue (x : F64) : |fValue x| = fMag x / 2 ^ 1074 := by
  have := abs_signed_sub_signed (fNeg x) (fMag x / 2 ^ 1074) 0
  rw [signed_zero, sub_zero, sub_zero] at this
  rw [fValue_eq_signed, this, abs_of_nonneg (by positivity)]

/-- RN32 overflows from the middle past the greatest finite binary32 on. -/
theorem rn32_finite_iff_abs {x : F64} (h : fIsFinite x = true) :
    f32IsFinite (rn32 x) = true ↔ |fValue x| < 2 ^ 128 - 2 ^ 103 := by
  have hlt := roundMag_lt_iff (frac := 23) (unit := 149) (top := 255) (num := fMag x)
    (den := 2 ^ 1074) (a := 128) (b := 103) (by norm_num) (by positivity) rfl rfl
  rw [rn32_finite_iff h, hlt, abs_fValue, Nat.cast_pow, Nat.cast_ofNat]

/-- The sign bit of a non-zero value. -/
theorem fNeg_eq_of_ne_zero {x : F64} (h : fValue x ≠ 0) : fNeg x = decide (fValue x < 0) := by
  have hv : (0 : ℚ) ≤ fMag x / 2 ^ 1074 := by positivity
  rw [fValue_eq_signed] at h ⊢
  cases hs : fNeg x <;> rw [hs] at h
  · exact (decide_eq_false (not_lt.mpr hv)).symm
  · exact (decide_eq_true (lt_of_le_of_ne (neg_nonpos.mpr hv) h)).symm

/-- RN32 overflows to the infinity of the sign. -/
theorem rn32_of_overflow {x : F64} (h : fIsFinite x = true) (hinf : f32IsFinite (rn32 x) = false) :
    rn32 x = if fValue x < 0 then 0xff800000#32 else 0x7f800000#32 := by
  have hne : fValue x ≠ 0 := by
    intro h0
    rw [← Bool.not_eq_true, rn32_finite_iff_abs h, h0] at hinf
    norm_num at hinf
  rw [← Bool.not_eq_true, rn32_finite_iff h] at hinf
  rw [rn32_eq h, (roundMag_le ..).antisymm (not_lt.mp hinf), fNeg_eq_of_ne_zero hne]
  by_cases hneg : fValue x < 0
  · rw [decide_eq_true hneg, if_pos hneg]; rfl
  · rw [decide_eq_false hneg, if_neg hneg]; rfl

theorem natAbs_fScaled (x : F64) : (fScaled x).natAbs = fMag x := by
  rw [fScaled]
  split
  · rw [Int.natAbs_neg, Int.natAbs_natCast]
  · rw [Int.natAbs_natCast]

/-! ### The operations on finite operands -/

theorem magBits_fneg (x : F64) : magBits (fneg x) = magBits x := by
  rw [magBits, fneg, BitVec.toNat_xor, Nat.xor_mod_two_pow]
  exact Nat.xor_zero _

theorem fNeg_fneg (x : F64) : fNeg (fneg x) = !fNeg x := by
  rw [fNeg, fneg, BitVec.msb_xor, fNeg]
  exact Bool.xor_true _

theorem fIsFinite_fneg (x : F64) : fIsFinite (fneg x) = fIsFinite x := by
  rw [Bool.eq_iff_iff, fIsFinite_iff, fIsFinite_iff, magBits_fneg]

theorem fValue_fneg (x : F64) : fValue (fneg x) = -fValue x := by
  rw [fValue_eq_signed, fValue_eq_signed, fMag_eq, magBits_fneg, ← fMag_eq, fNeg_fneg]
  cases fNeg x <;> simp [signed]

theorem fMag_pos {x : F64} (h : fIsZero x = false) : 0 < fMag x := by
  rw [fMag_eq, ← magValue_zero 52, (magValue_strictMono 52).lt_iff_lt, Nat.pos_iff_ne_zero]
  intro h0
  rw [fIsZero, fExp_eq, fFrac_eq, h0] at h
  exact absurd h (by decide)

section
variable {a b : F64} (ha : fIsFinite a = true) (hb : fIsFinite b = true)
include ha hb

theorem fadd_of_finite :
    fadd a b = if fScaled a + fScaled b = 0 then f64OfMag (fNeg a && fNeg b) 0
      else rn64 (decide (fScaled a + fScaled b < 0)) (fScaled a + fScaled b).natAbs (2 ^ 1074) := by
  simp only [fadd, fIsNaN_of_finite ha, fIsNaN_of_finite hb, fIsInf_of_finite ha,
    fIsInf_of_finite hb, Bool.or_self, Bool.false_eq_true, if_false]

theorem fmul_of_finite :
    fmul a b = rn64 (fNeg a != fNeg b) (fMag a * fMag b) (2 ^ 2148) := by
  simp only [fmul, fIsNaN_of_finite ha, fIsNaN_of_finite hb, fIsInf_of_finite ha,
    fIsInf_of_finite hb, Bool.or_self, Bool.false_eq_true, if_false]

theorem fdiv_of_finite (h0 : fIsZero b = false) :
    fdiv a b = rn64 (fNeg a != fNeg b) (fMag a) (fMag b) := by
  simp only [fdiv, fIsNaN_of_finite ha, fIsNaN_of_finite hb, fIsInf_of_finite ha,
    fIsInf_of_finite hb, h0, Bool.or_self, Bool.false_eq_true, if_false]

end

/-- An integer that is the value of some bits converts to these bits. -/
theorem fofInt_of_magValue {z : Int} {k : Nat} (hk : magValue 52 k = z.natAbs * 2 ^ 1074)
    (hlt : k < 2047 * 2 ^ 52) : fIsFinite (fofInt z) = true ∧ fValue (fofInt z) = z := by
  have hbits : fofInt z = ofMag 63 (decide (z < 0)) k := by
    rw [fofInt, rn64, roundMag_exact (by norm_num) one_pos (by rw [hk, mul_one]) hlt, f64OfMag_eq]
  have hk63 : k < 2 ^ 63 := by omega
  rw [hbits]
  refine ⟨(fIsFinite_iff _).mpr (by rwa [magBits_ofMag hk63]), ?_⟩
  rw [fValue_eq, bitValue_ofMag 52 1074 hk63, hk, Nat.cast_mul, Nat.cast_pow, Nat.cast_ofNat,
    mul_div_cancel_right₀ _ (by positivity), signed_natAbs]

/-- Integers up to `2^53` convert exactly. -/
theorem fofInt_exact {z : Int} (hz : z.natAbs ≤ 2 ^ 53) :
    fIsFinite (fofInt z) = true ∧ fValue (fofInt z) = z := by
  obtain ⟨k, hk⟩ := exists_magValue_eq 52 1074 z.natAbs hz
  exact fofInt_of_magValue hk (lt_top_of_magValue (s := 2045) hk hz (by norm_num))

theorem fFloorInt_eq (x : F64) : fFloorInt x = ⌊fValue x⌋ := by
  have := Rat.floor_intCast_div_natCast (fScaled x) (2 ^ 1074)
  rw [Nat.cast_pow, Nat.cast_ofNat, Nat.cast_pow, Nat.cast_ofNat] at this
  rw [fFloorInt, fValue, this]

/-- A bound on an integer in units of `d` bounds its floor. -/
theorem natAbs_ediv_le {z d : Int} {b : Nat} (hd : 0 < d) (h : |z| ≤ b * d) :
    (z / d).natAbs ≤ b := by
  obtain ⟨hlo, hhi⟩ := abs_le.mp h
  have hlo' : -(b : Int) ≤ z / d := Int.le_ediv_of_mul_le hd (by linarith)
  have hhi' : z / d ≤ b := Int.ediv_le_of_le_mul hd hhi
  omega

/-- The floor of a magnitude in units of `2^−unit`: from the exponent step `unit` on the magnitude
is a whole number already, and below it the floor is at most `2^(frac + 1)`. -/
theorem natAbs_floor_cases {frac m : Nat} (unit : Nat) {z : Int}
    (hz : z.natAbs = magValue frac m) :
    magValue frac m = (z / 2 ^ unit).natAbs * 2 ^ unit ∨
      (z / 2 ^ unit).natAbs ≤ 2 ^ (frac + 1) := by
  obtain ⟨t, q, rfl, hq, hn⟩ := exists_steps frac m
  rw [magValue_steps hq.le hn] at hz ⊢
  obtain ht | ht := Nat.le_total unit t
  · left
    have hdvd : (2 ^ unit : Int) ∣ z := by
      rw [← Int.natAbs_dvd_natAbs, hz, Int.natAbs_pow]
      exact (pow_dvd_pow 2 ht).mul_left q
    calc q * 2 ^ t = (z / 2 ^ unit * 2 ^ unit).natAbs := by rw [Int.ediv_mul_cancel hdvd, hz]
      _ = (z / 2 ^ unit).natAbs * 2 ^ unit := by rw [Int.natAbs_mul, Int.natAbs_pow]; rfl
  · right
    refine natAbs_ediv_le (by positivity) ?_
    rw [Int.abs_eq_natAbs, hz]
    exact_mod_cast Nat.mul_le_mul hq.le (Nat.pow_le_pow_right two_pos ht)

/-- `floor64` is exact. -/
theorem ffloor_exact {x : F64} (hx : fIsFinite x = true) :
    fIsFinite (ffloor x) = true ∧ fValue (ffloor x) = (⌊fValue x⌋ : ℚ) := by
  rw [ffloor, if_pos hx, ← fFloorInt_eq]
  obtain hself | hsmall := natAbs_floor_cases 1074 ((natAbs_fScaled x).trans (fMag_eq x))
  · exact fofInt_of_magValue hself ((fIsFinite_iff x).mp hx)
  · exact fofInt_exact hsmall

end Sys2Proof.Machine
end

section
/-! The obligations of 00_scope on R20: RN64, RN32 and the operations round correctly. -/

namespace Sys2Proof.Claims

open Sys2Proof.Machine

/-- RN64 rounds the signed quotient to nearest, ties to even. -/
theorem rn64_roundedTo {neg : Bool} {num den : Nat} (hden : 0 < den)
    (hfin : fIsFinite (rn64 neg num den) = true) :
    RoundedTo (rn64 neg num den) (signed neg (num / den)) := by
  rw [rn64_finite_iff] at hfin
  have hm : roundMag 52 1074 2047 num den < 2 ^ 63 := by omega
  intro y _
  rw [rn64, f64OfMag_eq, fValue_eq, fValue_eq, toNat_ofMag_mod_two hm neg (by norm_num)]
  exact (roundMag_nearest (by norm_num) hden hfin).ofMag_nearest 1074 (by positivity) hm neg y

/-- RN32 rounds a finite binary64 to nearest, ties to even. -/
theorem rn32_roundedTo {x : F64} (hx : fIsFinite x = true) (hfin : f32IsFinite (rn32 x) = true) :
    RoundedTo32 (rn32 x) (fValue x) := by
  rw [rn32_finite_iff hx] at hfin
  have hm : roundMag 23 149 255 (fMag x) (2 ^ 1074) < 2 ^ 31 := by omega
  have hnear := roundMag_nearest (by norm_num) (by positivity) hfin
  intro y _
  rw [rn32_eq hx, f32Value_eq, f32Value_eq, fValue_eq_signed,
    toNat_ofMag_mod_two hm _ (by norm_num)]
  rw [Nat.cast_pow, Nat.cast_ofNat] at hnear
  exact hnear.ofMag_nearest 149 (by positivity) hm _ y

/-- A value rounds to itself. -/
theorem roundedTo_fValue (v : F64) : RoundedTo v (fValue v) := by
  intro y _
  rw [sub_self, abs_zero]
  exact ⟨abs_nonneg _, fun h hne => absurd (sub_eq_zero.mp (abs_eq_zero.mp h.symm)) hne⟩

section
variable {a b : F64} (ha : fIsFinite a = true) (hb : fIsFinite b = true)
include ha hb

theorem fadd_roundedTo (hfin : fIsFinite (fadd a b) = true) :
    RoundedTo (fadd a b) (fValue a + fValue b) := by
  have hsum : fValue a + fValue b = ((fScaled a + fScaled b : Int) : ℚ) / 2 ^ 1074 := by
    rw [fValue, fValue, Int.cast_add, add_div]
  rw [fadd_of_finite ha hb] at hfin ⊢
  rw [hsum]
  split at hfin
  next h0 =>
    rw [if_pos h0, h0]
    convert roundedTo_fValue (f64OfMag (fNeg a && fNeg b) 0) using 1
    rw [fValue_eq, f64OfMag_eq, bitValue_ofMag 52 1074 (by norm_num), magValue_zero,
      Nat.cast_zero, Int.cast_zero, zero_div, signed_zero]
  next h0 =>
    rw [if_neg h0]
    convert rn64_roundedTo (by positivity) hfin using 1
    rw [signed_div, signed_natAbs, Nat.cast_pow, Nat.cast_ofNat]

theorem fsub_roundedTo (hfin : fIsFinite (fsub a b) = true) :
    RoundedTo (fsub a b) (fValue a - fValue b) := by
  rw [sub_eq_add_neg, ← fValue_fneg]
  exact fadd_roundedTo ha (by rwa [fIsFinite_fneg]) hfin

theorem fmul_roundedTo (hfin : fIsFinite (fmul a b) = true) :
    RoundedTo (fmul a b) (fValue a * fValue b) := by
  rw [fmul_of_finite ha hb] at hfin ⊢
  convert rn64_roundedTo (by positivity) hfin using 1
  rw [fValue_eq_signed, fValue_eq_signed, signed_mul_signed, div_mul_div_comm, ← pow_add,
    Nat.cast_mul, Nat.cast_pow, Nat.cast_ofNat]

theorem fdiv_roundedTo (h0 : fIsZero b = false) (hfin : fIsFinite (fdiv a b) = true) :
    RoundedTo (fdiv a b) (fValue a / fValue b) := by
  rw [fdiv_of_finite ha hb h0] at hfin ⊢
  convert rn64_roundedTo (fMag_pos h0) hfin using 1
  rw [fValue_eq_signed, fValue_eq_signed, signed_div_signed,
    div_div_div_cancel_right₀ (by positivity)]

end

/-- Settles O49: `roundMag` is the nearest magnitude, and the sign carries over. -/
theorem roundingIsToNearestEven : Obligations.RoundingIsToNearestEven := by
  refine ⟨fun neg num den hden hfin => ?_, fun x hx hfin => rn32_roundedTo hx hfin⟩
  rw [← signed_eq_mul]
  exact rn64_roundedTo hden hfin

/-- Settles O57: each operation is one RN64 of the exact result, and an integer result has bits of
its own. -/
theorem arithmeticIsCorrectlyRounded : Obligations.ArithmeticIsCorrectlyRounded :=
  ⟨fun _ _ ha hb => ⟨fadd_roundedTo ha hb, fsub_roundedTo ha hb, fmul_roundedTo ha hb,
    fdiv_roundedTo ha hb⟩, fun _ => fofInt_exact, fun _ => ffloor_exact⟩

/-- Settles O58: a rounding is infinite exactly where `roundMag` meets its bound. -/
theorem overflowIsInfinity : Obligations.OverflowIsInfinity :=
  ⟨fun neg _ _ hden => ⟨rn64_finite_iff_lt neg hden, rn64_of_overflow⟩,
    fun _ hx => ⟨rn32_finite_iff_abs hx, rn32_of_overflow hx⟩⟩

end Sys2Proof.Claims
end

section
/-! SUPPORT. What an operation writes, per channel and in the whole state (R39, R48). -/

namespace Sys2Proof.Machine

/-! ### noteIndex in one channel -/

/-- The only moves of `noteIndex` in one voice operation: none, or one NOTE_END from an index below
`count` (R255, R263). -/
def Channel.MovesTo (count : Nat) (ch ch' : Channel) : Prop :=
  ch'.noteIndex = ch.noteIndex ∨ ch.noteIndex < count ∧ ch'.noteIndex = ch.noteIndex + 1

section
variable {count : Nat} {ch ch' : Channel}

theorem Channel.MovesTo.refl : ch.MovesTo count ch := .inl rfl

theorem Channel.MovesTo.endIf (hlt : ch.noteIndex < count) (hkeep : ch'.noteIndex = ch.noteIndex)
    (p : Nat) (n : Note) : ch.MovesTo count (ch'.endIf p n) := by
  obtain he | he := ch'.endIf_cases p n <;> rw [he]
  · exact .inr ⟨hlt, by rw [Channel.noteEnd_noteIndex, hkeep]⟩
  · exact .inl hkeep

theorem Channel.MovesTo.bounds (h : ch.MovesTo count ch') :
    ch.noteIndex ≤ ch'.noteIndex ∧ ch'.noteIndex ≤ ch.noteIndex + 1 ∧
    (ch.noteIndex ≤ count → ch'.noteIndex ≤ count) := by
  unfold Channel.MovesTo at h
  omega

end

theorem melodicStep_movesTo {cfg : Cfg} {wave : WaveBank} {inst : Instrument} {p : Nat}
    {ch ch' : Channel} {out : Contribution}
    (h : melodicStep cfg wave inst p ch = .ok (out, ch')) :
    ch.MovesTo inst.noteCount.toNat ch' := by
  obtain ⟨-, rfl, -⟩ | ⟨n, hn, -, -, -, rfl⟩ | ⟨n, x, hn, -, -, -, -, rfl⟩ := melodicStep_cases h
  · exact .refl
  · exact .endIf (currentNote_some hn).1 rfl p n
  · exact .endIf (ch' := ch.tone n) (currentNote_some hn).1 rfl p n

theorem percStep_movesTo {cfg : Cfg} {drum : List (List F64)} {inst : Instrument} {p : Nat}
    {ch ch' : Channel} {out : Contribution} (h : percStep cfg drum inst p ch = (out, ch')) :
    ch.MovesTo inst.noteCount.toNat ch' := by
  obtain ⟨-, rfl, -⟩ | ⟨n, hn, -, -, -, rfl⟩ | ⟨n, x, hn, -, -, -, rfl⟩ := percStep_cases h
  · exact .refl
  · exact .endIf (currentNote_some hn).1 rfl p n
  · exact .endIf (ch' := { ch with samplesPlayed := ch.samplesPlayed + 1 })
      (currentNote_some hn).1 rfl p n

/-! ### The voice operations -/

/-- `t` is `s` with a new contribution of channel `c` and a move of its registers. -/
def VoiceWrites (c : Fin 16) (s t : State) : Prop :=
  ∃ out ch, t = s.putVoice c out ch ∧ s.ch[c].MovesTo s.song.inst[c].noteCount.toNat ch

theorem voice_writes {c : Fin 16} {s t : State} (h : voice c s = .ok t) : VoiceWrites c s t := by
  obtain ⟨out, ch, rfl, ⟨-, e⟩ | ⟨-, -, e⟩ | ⟨-, -, -, rfl⟩⟩ := voice_cases h
  · exact ⟨out, ch, rfl, melodicStep_movesTo e⟩
  · exact ⟨out, ch, rfl, percStep_movesTo e⟩
  · exact ⟨out, _, rfl, .refl⟩

/-- The operations that a host can request of the voice of channel `c` (R246, R256, R257). -/
def IsVoiceOf (c : Fin 16) (i : Instr) : Prop :=
  i = .melodicVoice c ∨ i = .percVoiceStream c ∨ i = .percVoiceSilent c

/-- A voice operation that completes is the voice of STEP on its own channel, or the silent one. -/
theorem exec_voice_writes {c : Fin 16} {i : Instr} {s t : State} (hi : IsVoiceOf c i)
    (h : exec i s = .next t) : VoiceWrites c s t := by
  obtain rfl | rfl | rfl := hi
  · change execMelodicVoice c s = .next t at h
    unfold execMelodicVoice at h
    split at h
    next hm =>
      cases hv : melodicVoice c s with
      | error r => rw [hv] at h; cases h
      | ok u => rw [hv] at h; cases h; exact voice_writes (by rw [voice, if_pos hm, hv])
    next => cases h
  · change execPercVoiceStream c s = .next t at h
    unfold execPercVoiceStream at h
    split at h
    next => cases h
    next hm => cases h; exact voice_writes (by rw [voice, if_neg hm])
  · change execPercVoiceSilent c s = .next t at h
    unfold execPercVoiceSilent at h
    split at h
    next => cases h
    next => cases h; exact ⟨_, _, rfl, .refl⟩

/-! ### The voices of a STEP -/

theorem runVoices_cons {c : Fin 16} {cs : List (Fin 16)} {s t : State}
    (h : runVoices (c :: cs) s = .ok t) : ∃ u, voice c s = .ok u ∧ runVoices cs u = .ok t := by
  unfold runVoices at h
  split at h
  next u hu => exact ⟨u, hu, h⟩
  next => cases h

/-- The voices of other channels leave a channel's registers as they were (R39). -/
theorem runVoices_ch_of_notMem {cs : List (Fin 16)} {s t : State} {d : Fin 16} (hd : d ∉ cs)
    (h : runVoices cs s = .ok t) : t.ch[d] = s.ch[d] := by
  induction cs generalizing s with
  | nil => cases h; rfl
  | cons c cs ih =>
    obtain ⟨u, hu, ht⟩ := runVoices_cons h
    obtain ⟨out, ch, rfl, -⟩ := voice_writes hu
    obtain ⟨hne, hd⟩ := not_or.mp (List.mem_cons.not.mp hd)
    rw [ih hd ht, State.putVoice_ch_other s c d out ch (Ne.symm hne)]

/-- When each channel has one voice, each channel's `noteIndex` moves once or not at all. -/
theorem runVoices_movesTo {cs : List (Fin 16)} {s t : State} (hcs : cs.Nodup)
    (h : runVoices cs s = .ok t) (d : Fin 16) :
    s.ch[d].MovesTo s.song.inst[d].noteCount.toNat t.ch[d] := by
  induction cs generalizing s with
  | nil => cases h; exact .refl
  | cons c cs ih =>
    obtain ⟨hc, hcs⟩ := List.nodup_cons.mp hcs
    obtain ⟨u, hu, ht⟩ := runVoices_cons h
    obtain ⟨out, ch, rfl, hmove⟩ := voice_writes hu
    obtain rfl | hne := eq_or_ne c d
    · rwa [runVoices_ch_of_notMem hc ht, State.putVoice_ch_same]
    · have := ih hcs ht
      rwa [State.putVoice_ch_other s c d out ch hne] at this

theorem stepFrame_movesTo {s t : State} (h : stepFrame s = .ok t) (c : Fin 16) :
    s.ch[c].MovesTo s.song.inst[c].noteCount.toNat t.ch[c] := by
  obtain ⟨u, hu, rfl⟩ := stepFrame_cases h
  exact runVoices_movesTo (by decide) hu c

theorem stepFrame_of_exec {s t : State} (h : exec .step s = .next t) : stepFrame s = .ok t := by
  change outcomeOf (stepFrame s) = .next t at h
  cases hu : stepFrame s with
  | error r => rw [hu] at h; cases h
  | ok u => rw [hu] at h; cases h; rfl

/-! ### Every operation -/

/-- What an operation that completes can write, by the part of the state it writes (R48). -/
inductive Writes (s : State) : Instr → State → Prop
  /-- A record or a reader primitive: the transient state of a CONSTRUCT. -/
  | assembly {i : Instr} (hi : i.selector.isSome ∨ (Claims.readerWidth i).isSome) (a : Assembly) :
      Writes s i (s.putAsm a)
  | voice {c : Fin 16} {i : Instr} {t : State} (hi : IsVoiceOf c i)
      (h : VoiceWrites c s t) : Writes s i t
  | mix : Writes s .mixClamp (mixClamp s)
  | step {t : State} (h : stepFrame s = .ok t) : Writes s .step t
  | produce {n : BitVec 32} {fs : List Frame} {t : State} (hmode : s.mode = .constructed)
      (h : produceFrames n.toNat s = .ok (fs, t)) : Writes s (.produce n) (t.putResult (.frames fs))
  | failed (cfg : Cfg) (a b : List Byte) (d : List (List Byte)) (e : Err) :
      Writes s (.construct cfg a b d) (s.failWith e)
  | constructed {cfg : Cfg} {a b : List Byte} {d : List (List Byte)} {song : Song}
      {wave : WaveBank} {drum : List (List F64)}
      (h : buildEngine cfg a b d = .ok (song, wave, drum)) :
      Writes s (.construct cfg a b d) ((s.commit cfg song wave drum).putResult
        (.constructed song.songStartSample song.songEndSample))

theorem execSongHeader_cases (h : SongHeaderRec) (s : State) :
    ∃ a, execSongHeader h s = .next (s.putAsm a) := by
  unfold execSongHeader
  split
  · exact ⟨_, rfl⟩
  · exact ⟨_, rfl⟩

theorem execProduce_cases {n : BitVec 32} {s t : State} (h : execProduce n s = .next t) :
    s.mode = .constructed ∧ ∃ fs u, produceFrames n.toNat s = .ok (fs, u) ∧
      t = u.putResult (.frames fs) := by
  unfold execProduce at h
  split at h
  next => cases h
  next hmode =>
    split at h
    next fs u hu => cases h; exact ⟨hmode, fs, u, hu, rfl⟩
    next => cases h

/-- Everything an operation that completes can write. -/
theorem exec_writes {i : Instr} {s t : State} (h : exec i s = .next t) : Writes s i t := by
  cases i with
  | songHeader r =>
    obtain ⟨a, e⟩ := execSongHeader_cases r s
    obtain rfl : s.putAsm a = t := Host.Outcome.next.inj (e.symm.trans h)
    exact .assembly (.inl rfl) a
  | instrumentHeader | note | waveEntry | drumSample => cases h; exact .assembly (.inl rfl) _
  | readU8 | readU16le | readU32le | readS8 | readS16be | skip | readWaveform =>
    cases h; exact .assembly (.inr rfl) _
  | construct cfg a b d =>
    change execConstruct cfg a b d s = .next t at h
    obtain ⟨-, e⟩ | ⟨-, -, e⟩ | ⟨-, -, err, -, e⟩ | ⟨-, -, song, wave, drum, hb, e⟩ :=
      execConstruct_cases cfg a b d s <;> rw [e] at h <;> cases h
    · exact .failed cfg a b d err
    · exact .constructed hb
  | produce n =>
    obtain ⟨hmode, fs, u, hu, rfl⟩ := execProduce_cases h
    exact .produce hmode hu
  | step => exact .step (stepFrame_of_exec h)
  | melodicVoice c => exact .voice (.inl rfl) (exec_voice_writes (.inl rfl) h)
  | percVoiceStream c => exact .voice (.inr (.inl rfl)) (exec_voice_writes (.inr (.inl rfl)) h)
  | percVoiceSilent c => exact .voice (.inr (.inr rfl)) (exec_voice_writes (.inr (.inr rfl)) h)
  | mixClamp => cases h; exact .mix

end Sys2Proof.Machine
end

section
/-! The obligations of 10_state on what an operation leaves unchanged (R39, R40, R43, R48). -/

namespace Sys2Proof.Claims

open Sys2Proof.Machine

/-- Settles O42: a voice operation is one `putVoice` on its own channel, with one move at most. -/
theorem voicesWriteTheirOwnChannelOnly : Obligations.VoicesWriteTheirOwnChannelOnly := by
  intro c i s t hi h
  obtain ⟨out, ch, rfl, hmove⟩ := exec_voice_writes hi h
  obtain ⟨hle, hsucc, -⟩ := hmove.bounds
  rw [State.putVoice_ch_same]
  exact ⟨rfl, fun d hd => ⟨State.putVoice_ch_other s c d out ch hd.symm,
    State.putVoice_contrib_other s c d out ch hd.symm⟩, hle, hsucc⟩

/-- Settles O43: a STEP runs one voice per channel, and the song store stays. -/
theorem noteIndexOnlyAdvances : Obligations.NoteIndexOnlyAdvances := by
  intro s t c h
  have hstep := stepFrame_of_exec h
  rw [(stepFrame_frame hstep).1.song]
  exact (stepFrame_movesTo hstep c).bounds

/-- Settles O56: no update but CONSTRUCT's commit writes the stores, and none but it and a STEP's
advance writes p. -/
theorem onlyConstructWritesTheStores : Obligations.OnlyConstructWritesTheStores := by
  intro i s t h
  cases exec_writes h with
  | assembly hi a => exact ⟨fun _ => ⟨rfl, rfl, rfl, rfl, rfl⟩, fun _ _ _ => rfl⟩
  | voice hi hv =>
    obtain ⟨out, ch, rfl, -⟩ := hv
    exact ⟨fun _ => ⟨rfl, rfl, rfl, rfl, rfl⟩, fun _ _ _ => rfl⟩
  | mix => exact ⟨fun _ => ⟨rfl, rfl, rfl, rfl, rfl⟩, fun _ _ _ => rfl⟩
  | step hs =>
    obtain ⟨hsame, -⟩ := stepFrame_frame hs
    exact ⟨fun _ => ⟨hsame.mode, hsame.cfg, hsame.song, hsame.wave, hsame.drum⟩,
      fun _ hne _ => absurd rfl hne⟩
  | @produce n fs u hmode hp =>
    obtain ⟨hsame, -, -⟩ := produceFrames_frame hp
    exact ⟨fun _ => ⟨hsame.mode, hsame.cfg, hsame.song, hsame.wave, hsame.drum⟩,
      fun _ _ hne => absurd rfl (hne n)⟩
  | failed cfg a b d e =>
    exact ⟨fun hne => absurd rfl (hne cfg a b d), fun hne => absurd rfl (hne cfg a b d)⟩
  | @constructed cfg a b d song wave drum hb =>
    exact ⟨fun hne => absurd rfl (hne cfg a b d), fun hne => absurd rfl (hne cfg a b d)⟩

end Sys2Proof.Claims
end

section
/-! SUPPORT. What WAVE_DECODE leaves in the bank (R88, R220, R221), and what VALIDATE (R241) says of
one channel. -/

namespace Sys2Proof.Machine

open Sys2Proof.Claims

/-! ### One wave entry -/

theorem decodeWaveEntry_of_lt {bs : List Byte} (h : bs.length < 256) :
    decodeWaveEntry bs = none :=
  dif_neg (by rw [List.length_take]; omega)

/-- A wave entry takes 256 bytes, and sample j is byte j of them (R115). -/
theorem decodeWaveEntry_of_le {bs : List Byte} (h : 256 ≤ bs.length) :
    ∃ samples, decodeWaveEntry bs = some (samples, bs.drop 256) ∧
      ∀ j : Fin 256, samples[j] = byteAt bs j := by
  have hlen : (bs.take 256).length = 256 := by simpa using h
  refine ⟨_, dif_pos hlen, fun j => ?_⟩
  have hj : (j : Nat) < bs.length := by omega
  simp [byteAt, hj]

/-- `byteAt` behind the first `n` bytes. -/
theorem byteAt_drop (bs : List Byte) (n a : Nat) : byteAt (bs.drop n) a = byteAt bs (n + a) := by
  simp [byteAt]

theorem waveEntryInto_same (w : Fin 100) (samples : Vector Byte 256) (wave : WaveBank)
    (j : Fin 256) : (waveEntryInto w samples wave)[w][j] = waveSample samples[j] := by
  simp [waveEntryInto]

theorem waveEntryInto_other {v w : Fin 100} (samples : Vector Byte 256) (wave : WaveBank)
    (h : v ≠ w) : (waveEntryInto w samples wave)[v] = wave[v] := by
  have : w.val ≠ v.val := fun e => h (Fin.ext e.symm)
  simp [waveEntryInto, this]

/-! ### A run of wave entries -/

theorem decodeWaves_of_lt {ws : List (Fin 100)} {wave : WaveBank} {bs : List Byte}
    (h : bs.length < 256 * ws.length) : decodeWaves ws wave bs = .error .truncatedInput := by
  induction ws generalizing wave bs with
  | nil => simp at h
  | cons w ws ih =>
    rw [List.length_cons] at h
    by_cases hlen : bs.length < 256
    · simp [decodeWaves, decodeWaveEntry_of_lt hlen]
    · obtain ⟨samples, hdec, -⟩ := decodeWaveEntry_of_le (Nat.le_of_not_lt hlen)
      have hrest : (bs.drop 256).length < 256 * ws.length := by rw [List.length_drop]; omega
      simp only [decodeWaves, hdec, ih hrest]

/-- The k-th index decoded gets the k-th run of 256 bytes, and an index that is not decoded keeps
its entry. -/
theorem decodeWaves_of_le {ws : List (Fin 100)} (hws : ws.Nodup) {wave : WaveBank}
    {bs : List Byte} (h : 256 * ws.length ≤ bs.length) :
    ∃ bank, decodeWaves ws wave bs = .ok bank ∧
      (∀ v : Fin 100, v ∉ ws → bank[v] = wave[v]) ∧
      ∀ (k : Nat) (v : Fin 100), ws[k]? = some v →
        ∀ j : Fin 256, bank[v][j] = waveSample (byteAt bs (256 * k + j)) := by
  induction ws generalizing wave bs with
  | nil => exact ⟨wave, rfl, fun _ _ => rfl, by simp⟩
  | cons w ws ih =>
    rw [List.length_cons] at h
    obtain ⟨hw, hws⟩ := List.nodup_cons.mp hws
    obtain ⟨samples, hdec, hsamples⟩ := decodeWaveEntry_of_le (bs := bs) (by omega)
    obtain ⟨bank, hbank, hkeep, hread⟩ := ih hws (wave := waveEntryInto w samples wave)
      (bs := bs.drop 256) (by rw [List.length_drop]; omega)
    refine ⟨bank, by simp only [decodeWaves, hdec, hbank], fun v hv => ?_, fun k v hk j => ?_⟩
    · obtain ⟨hvw, hv⟩ := not_or.mp (mt List.mem_cons.mpr hv)
      rw [hkeep v hv, waveEntryInto_other samples wave hvw]
    · cases k with
      | zero =>
        obtain rfl : w = v := by simpa using hk
        rw [hkeep w hw, waveEntryInto_same, hsamples, Nat.mul_zero, Nat.zero_add]
      | succ k =>
        rw [hread k v (by simpa using hk) j, byteAt_drop]
        congr 2
        omega

/-! ### VALIDATE on one channel -/

theorem mem_channels (c : Fin 16) : c ∈ channels := by
  revert c
  decide

theorem badIndex_of_validSong {cfg : Cfg} {song : Song} (h : validSong cfg song = true)
    (c : Fin 16) : badIndex cfg song c = false := by
  simpa using List.all_eq_true.mp h c (mem_channels c)

section
variable {cfg : Cfg} {song : Song} {c : Fin 16}

/-- A validated melodic channel with notes names an entry of the wave bank (R241 b). -/
theorem waveIndex_lt_of_validSong (h : validSong cfg song = true) (hc : isMelodic c = true)
    (hcount : 0 < song.inst[c].noteCount.toNat) :
    song.inst[c].instrumentIndex.toNat < 100 := by
  have hbad := badIndex_of_validSong h c
  simp only [badIndex, if_pos hc, Bool.or_eq_false_iff, Bool.and_eq_false_iff,
    decide_eq_false_iff_not] at hbad
  omega

/-- The notes of a validated melodic channel lie in the octave tables (R241 a). -/
theorem octave_lt_of_validSong (h : validSong cfg song = true) (hc : isMelodic c = true)
    {n : Note} (hn : n ∈ song.inst[c].notes) : n.octave < 8 := by
  have hbad := badIndex_of_validSong h c
  simp only [badIndex, if_pos hc, Bool.or_eq_false_iff, List.any_eq_false, decide_eq_true_eq]
    at hbad
  exact Nat.lt_of_not_le (hbad.2 n hn)

/-- A validated percussion channel with notes names an entry of the drum bank, under STREAM
(R241 c). -/
theorem drumIndex_lt_of_validSong (h : validSong cfg song = true) (hc : isMelodic c = false)
    (hmode : cfg.percMode = .stream) (hcount : 0 < song.inst[c].noteCount.toNat) :
    song.inst[c].instrumentIndex.toNat < cfg.numDrums := by
  have hbad := badIndex_of_validSong h c
  simp only [badIndex, hc, hmode, Bool.false_eq_true, if_false, beq_self_eq_true, Bool.true_and,
    Bool.and_eq_false_iff, decide_eq_false_iff_not] at hbad
  omega

end

theorem readPosition_of_lt (cfg : Cfg) (octave : Fin 8) (offset : F64) :
    readPosition cfg octave offset =
      ffloor (fmul (fdiv (ffloor offset) cfg.octRepeat[octave]) cfg.octAdvance[octave]) := by
  rw [readPosition, octRepeatAt_of_lt cfg octave.isLt, octAdvanceAt_of_lt cfg octave.isLt]
  rfl

end Sys2Proof.Machine
end

section
/-! The obligations of 20_memory: the layout of the melodic bank (R88, R221) and the bounds of a
voice's reads (R83). -/

namespace Sys2Proof.Claims

open Sys2Proof.Machine

/-- Settles O22: entry w is the w-th index decoded, so it has the w-th run of 256 bytes. -/
theorem waveBankLayout : Obligations.WaveBankLayout := by
  intro bs
  have hlen : (List.finRange 100).length = 100 := List.length_finRange
  refine ⟨fun h => decodeWaves_of_lt (by omega), fun h => ?_⟩
  obtain ⟨bank, hbank, -, hread⟩ := decodeWaves_of_le (List.nodup_finRange 100)
    (wave := WaveBank.empty) (bs := bs) (by omega)
  exact ⟨bank, hbank, fun w => hread w w (by simp)⟩

/-- Settles O55: a sounding channel has a note, so VALIDATE has checked the indices its voice reads
by. -/
theorem noReadOutsideTheStores : Obligations.NoReadOutsideTheStores := by
  intro s c n hinv ⟨hidx, hnote, _⟩
  have hcount : 0 < s.song.inst[c].noteCount.toNat := Nat.zero_lt_of_lt hidx
  constructor
  · intro hc
    have hmel : isMelodic c = true := decide_eq_true hc
    have hoct := octave_lt_of_validSong hinv.validated hmel (List.mem_of_getElem? hnote)
    have hwave := waveIndex_lt_of_validSong hinv.validated hmel hcount
    exact ⟨⟨n.octave, hoct⟩, ⟨_, hwave⟩, rfl, rfl, readPosition_of_lt s.cfg ⟨n.octave, hoct⟩,
      fun j => waveAt_of_lt s.wave j hwave⟩
  · intro hc hmode
    have hperc : isMelodic c = false := decide_eq_false (Nat.not_lt.mpr hc)
    have hdrum := drumIndex_lt_of_validSong hinv.validated hperc hmode hcount
    rw [← hinv.drumCount] at hdrum
    have hget := List.getElem?_eq_getElem hdrum
    exact ⟨_, hget, drumAt_of_some hget⟩

end Sys2Proof.Claims
end

section
/-! SUPPORT. What a reader primitive returns (R152–R158), said once for the seven of them, and the
numbers it reads. -/

namespace Sys2Proof.Machine

open Sys2Proof.Claims

/-! ### The reader primitives -/

/-- The value a reader primitive returns for the bytes it reads (R152–R158). -/
def readerValue : Instr → List Byte → ReadValue
  | .readU8, bs | .readU16le, bs | .readU32le, bs => .num (leNat bs)
  | .readS8, bs | .readS16be, bs => .num (beInt bs)
  | .readWaveform, bs => .block bs
  | _, _ => .nothing

section
variable {i : Instr} {w : Nat} {s : State}

/-- A reader primitive is one `readBytes` of its width and value. -/
theorem exec_reader (hi : readerWidth i = some w) :
    exec i s = .next (s.putAsm (s.asm.readBytes w (readerValue i))) := by
  cases i with
  | readU8 | readU16le | readU32le | readS8 | readS16be | skip | readWaveform => cases hi; rfl
  | _ => cases hi

theorem exec_reader_of_lt (hi : readerWidth i = some w)
    (h : s.asm.rd.buf.length < s.asm.rd.cur + w) :
    exec i s = .next (raised s .truncatedInput) := by
  rw [exec_reader hi]
  obtain ⟨hle, -⟩ | ⟨-, e⟩ := s.asm.readBytes_cases w (readerValue i)
  · omega
  · rw [e]
    rfl

theorem exec_reader_of_le (hi : readerWidth i = some w)
    (h : s.asm.rd.cur + w ≤ s.asm.rd.buf.length) :
    exec i s = .next (readDone s w (readerValue i (s.asm.rd.rest.take w))) := by
  rw [exec_reader hi]
  obtain ⟨-, e⟩ | ⟨hlt, -⟩ := s.asm.readBytes_cases w (readerValue i)
  · rw [e]
    rfl
  · omega

/-- Where the bytes at the cursor are written out, they are the bytes read. -/
theorem exec_reader_of_drop {b : Byte} {bs rest : List Byte}
    (hi : readerWidth i = some (b :: bs).length)
    (h : s.asm.rd.buf.drop s.asm.rd.cur = b :: bs ++ rest) :
    exec i s = .next (readDone s (b :: bs).length (readerValue i (b :: bs))) := by
  have hlen := congrArg List.length h
  rw [List.length_drop, List.length_append, List.length_cons] at hlen
  have hle : s.asm.rd.cur + (b :: bs).length ≤ s.asm.rd.buf.length := by
    rw [List.length_cons]
    omega
  rw [exec_reader_of_le hi hle, Reader.rest, h, List.take_left]

end

/-! ### The numbers read -/

theorem leNat_two (b0 b1 : Byte) : leNat [b0, b1] = b0.toNat + 256 * b1.toNat := rfl

theorem leNat_four (b0 b1 b2 b3 : Byte) :
    leNat [b0, b1, b2, b3] =
      b0.toNat + 2 ^ 8 * b1.toNat + 2 ^ 16 * b2.toNat + 2 ^ 24 * b3.toNat := by
  simp only [leNat]
  omega

theorem beInt_one (b0 : Byte) :
    beInt [b0] = if b0.toNat < 0x80 then (b0.toNat : Int) else (b0.toNat : Int) - 256 := by
  have hsign : 2 * b0.toNat < 256 ↔ b0.toNat < 0x80 := by omega
  simp [beInt, beNat, hsign]

theorem beInt_two (b0 b1 : Byte) :
    beInt [b0, b1] = if 256 * b0.toNat + b1.toNat < 0x8000
      then ((256 * b0.toNat + b1.toNat : Nat) : Int)
      else ((256 * b0.toNat + b1.toNat : Nat) : Int) - 65536 := by
  have hsign : 2 * (256 * b0.toNat + b1.toNat) < 65536 ↔ 256 * b0.toNat + b1.toNat < 0x8000 := by
    omega
  simp [beInt, beNat, Nat.mul_comm b0.toNat 256, hsign]

/-- A run of bytes inside the buffer, byte by byte. -/
theorem take_drop_eq_map_byteAt {buf : List Byte} {a n : Nat} (h : a + n ≤ buf.length) :
    (buf.drop a).take n = (List.range n).map fun j => byteAt buf (a + j) := by
  refine List.ext_getElem (by simp; omega) fun j _ hj => ?_
  have hlt : a + j < buf.length := by
    rw [List.length_map, List.length_range] at hj
    omega
  simp [byteAt, hlt]

end Sys2Proof.Machine
end

section
/-! The obligations of 40_stream_reader: the seven reader primitives (R151–R158). -/

namespace Sys2Proof.Claims

open Sys2Proof.Machine

/-- Settles O11: the seven primitives are one `readBytes`, which has these two cases. -/
theorem shortReadsChangeNothing : Obligations.ShortReadsChangeNothing :=
  fun _ _ _ hi => ⟨exec_reader_of_lt hi, fun h => ⟨_, exec_reader_of_le hi h⟩⟩

/-- Settles O8: the value is the little-endian number of the bytes at the cursor. -/
theorem unsignedReads : Obligations.UnsignedReads := by
  refine ⟨fun s b0 rest h => ?_, fun s b0 b1 rest h => ?_, fun s b0 b1 b2 b3 rest h => ?_,
    fun s => ⟨exec_reader_of_lt rfl, exec_reader_of_lt rfl, exec_reader_of_lt rfl⟩⟩
  · exact exec_reader_of_drop (bs := []) rfl h
  · simpa [readerValue, leNat_two] using
      exec_reader_of_drop (i := .readU16le) (bs := [b1]) rfl h
  · simpa [readerValue, leNat_four] using
      exec_reader_of_drop (i := .readU32le) (bs := [b1, b2, b3]) rfl h

/-- Settles O9: the value is the two's-complement big-endian number of the bytes at the cursor. -/
theorem signedReads : Obligations.SignedReads := by
  refine ⟨fun s b0 rest h => ?_, fun s b0 b1 rest h => ?_,
    fun s => ⟨exec_reader_of_lt rfl, exec_reader_of_lt rfl⟩⟩
  · rw [← beInt_one]
    exact exec_reader_of_drop (bs := []) rfl h
  · rw [← beInt_two]
    exact exec_reader_of_drop (bs := [b1]) rfl h

/-- Settles O10: SKIP returns nothing and READ_WAVEFORM the bytes it reads. -/
theorem skipAndWaveformReads : Obligations.SkipAndWaveformReads := by
  refine ⟨fun s n => ⟨exec_reader_of_le rfl, exec_reader_of_lt rfl⟩,
    fun s => ⟨fun h => ?_, exec_reader_of_lt rfl⟩⟩
  rw [← take_drop_eq_map_byteAt h]
  exact exec_reader_of_le rfl h

end Sys2Proof.Claims
end

section
/-! SUPPORT. The bytes of a record read back (R86, R112–R114): the decoder after the encoder, field
by field and record by record, with any bytes behind it. -/

namespace Sys2Proof.Machine

open Sys2Proof.Claims

/-! ### Numbers from their bytes -/

/-- Byte `k + 1` and upwards before byte `k`: two neighbouring runs of bits are one run. -/
theorem extractLsb'_append_byteOf {w : Nat} (v : BitVec w) (k n : Nat) :
    v.extractLsb' (8 * (k + 1)) n ++ byteOf v k = v.extractLsb' (8 * k) (n + 8) :=
  BitVec.extractLsb'_append_extractLsb'_eq_extractLsb' (by omega)

theorem le16_byteOf (v : BitVec 16) : le16 (byteOf v 0) (byteOf v 1) = v :=
  (extractLsb'_append_byteOf v 0 8).trans BitVec.extractLsb'_eq_self

theorem le32_byteOf (v : BitVec 32) :
    le32 (byteOf v 0) (byteOf v 1) (byteOf v 2) (byteOf v 3) = v := by
  have h₂ : byteOf v 3 ++ byteOf v 2 = v.extractLsb' (8 * 2) 16 := extractLsb'_append_byteOf v 2 8
  rw [le32, h₂, extractLsb'_append_byteOf, extractLsb'_append_byteOf]
  exact BitVec.extractLsb'_eq_self

/-- The magic has its most significant byte first (R112). -/
theorem magicWord_byteOf (v : BitVec 48) :
    magicWord (byteOf v 5) (byteOf v 4) (byteOf v 3) (byteOf v 2) (byteOf v 1) (byteOf v 0) =
      v := by
  have h₄ : byteOf v 5 ++ byteOf v 4 = v.extractLsb' (8 * 4) 16 := extractLsb'_append_byteOf v 4 8
  rw [magicWord, h₄, extractLsb'_append_byteOf, extractLsb'_append_byteOf,
    extractLsb'_append_byteOf, extractLsb'_append_byteOf]
  exact BitVec.extractLsb'_eq_self

/-! ### Records from their bytes -/

section
variable (rest : List Byte)

theorem decodeSongHeader_encode (h : SongHeaderRec) :
    decodeSongHeader (encodeSongHeader h ++ rest) = some (h, rest) := by
  simp [encodeSongHeader, bytesLe32, decodeSongHeader, magicWord_byteOf, le32_byteOf]

theorem decodeInstrumentHeader_encode (h : InstrumentRec) :
    decodeInstrumentHeader (encodeInstrumentHeader h ++ rest) = some (h, rest) := by
  simp [encodeInstrumentHeader, bytesLe16, decodeInstrumentHeader, le16_byteOf]

theorem decodeNote_encode (r : NoteRec) : decodeNote (encodeNote r ++ rest) = some (r, rest) := by
  simp [encodeNote, bytesLe32, decodeNote, le32_byteOf]

theorem magicAt_encodeSongHeader (h : SongHeaderRec) :
    magicAt (encodeSongHeader h ++ rest) = h.magic :=
  magicWord_byteOf h.magic

end

/-! ### The magic -/

theorem magicOk_eq_false_iff (cfg : Cfg) (m : BitVec 48) :
    magicOk cfg m = false ↔ ∀ pat ∈ cfg.magic, m &&& pat.mask ≠ pat.value &&& pat.mask := by
  simp [magicOk]

/-- Where six bytes are there, MAGIC_OK alone decides (R172). -/
theorem magicRefused_of_le (cfg : Cfg) {bs : List Byte} (h : 6 ≤ bs.length) :
    magicRefused cfg bs = !magicOk cfg (magicAt bs) := by
  match bs, h with
  | _ :: _ :: _ :: _ :: _ :: _ :: _, _ => rfl

end Sys2Proof.Machine
end

section
/-! SUPPORT. Sample times (R175, R180), inheritance (R179) and the speed of a note (R184). -/

namespace Sys2Proof.Machine

open Sys2Proof.Claims

/-! ### Sample times -/

theorem exactTime_eq (cfg : Cfg) (waitMs : Byte) (b : Nat) :
    exactTime cfg waitMs b = ((b * waitMs.toNat * cfg.sampleRate : Nat) : ℚ) / 1000 := by
  push_cast
  rfl

theorem beatToSample_le_iff (cfg : Cfg) (waitMs : Byte) (b p : Nat) :
    beatToSample cfg waitMs b ≤ p ↔ exactTime cfg waitMs b ≤ (p : ℚ) := by
  have hnat : beatToSample cfg waitMs b ≤ p ↔
      b * waitMs.toNat * cfg.sampleRate ≤ p * 1000 := by
    rw [beatToSample]
    omega
  rw [hnat, exactTime_eq, div_le_iff₀ (by norm_num)]
  norm_cast

/-- `T(b)` is the ceiling of `B(b)` (R175). -/
theorem beatToSample_eq_ceil (cfg : Cfg) (waitMs : Byte) (b : Nat) :
    beatToSample cfg waitMs b = ⌈exactTime cfg waitMs b⌉₊ :=
  eq_of_forall_ge_iff fun p => (beatToSample_le_iff cfg waitMs b p).trans Nat.ceil_le.symm

theorem beatToSample_mono (cfg : Cfg) (waitMs : Byte) : Monotone (beatToSample cfg waitMs) :=
  fun _ _ h => Nat.div_le_div_right (Nat.add_le_add_right
    (Nat.mul_le_mul_right _ (Nat.mul_le_mul_right _ h)) _)

/-- The latest end of a note that a record can hold is far below `2^64` (R180). -/
theorem beatToSample_lt_two_pow (cfg : Cfg) (waitMs : Byte) {b : Nat}
    (hrate : cfg.sampleRate < 2 ^ 32) (hb : b < 2 ^ 32 + 255) :
    beatToSample cfg waitMs b < 2 ^ 64 := by
  have hbeats : b * waitMs.toNat ≤ (2 ^ 32 + 254) * 255 := Nat.mul_le_mul (by omega) (by omega)
  have hsamples : b * waitMs.toNat * cfg.sampleRate ≤ (2 ^ 32 + 254) * 255 * (2 ^ 32 - 1) :=
    Nat.mul_le_mul hbeats (by omega)
  rw [beatToSample]
  omega

/-- At 44100 Hz a beat is `441 · waitMs / 10` samples, and 441 is prime to 10 (R175). -/
theorem exactTime_isNat_iff {cfg : Cfg} (waitMs : Byte) (b : Nat) (hrate : cfg.sampleRate = 44100) :
    (∃ k : Nat, exactTime cfg waitMs b = (k : ℚ)) ↔ b * waitMs.toNat % 10 = 0 := by
  have hnat (k : Nat) : exactTime cfg waitMs b = (k : ℚ) ↔ b * waitMs.toNat * 44100 = k * 1000 := by
    rw [exactTime_eq, hrate, div_eq_iff (by norm_num)]
    norm_cast
  simp only [hnat]
  constructor
  · rintro ⟨k, hk⟩
    omega
  · intro h
    exact ⟨b * waitMs.toNat / 10 * 441, by omega⟩

/-! ### Inheritance -/

theorem inherit_val (b : Byte) (prev : Level) : (inherit b prev).val = fieldValue b prev := by
  by_cases h : b.toNat < 255
  · have hliteral : b ≠ 0xFF#8 := by
      rintro rfl
      exact absurd h (by decide)
    rw [inherit, dif_pos h, fieldValue, if_neg hliteral]
  · have hsentinel : b = 0xFF#8 := by
      apply BitVec.eq_of_toNat_eq
      rw [BitVec.toNat_ofNat]
      omega
    rw [inherit, dif_neg h, fieldValue, if_pos hsentinel]

/-! ### Finite sums and quotients -/

section
variable {a b : F64} (ha : fIsFinite a = true)
include ha

/-- The greatest finite binary64. -/
theorem abs_fValue_le : |fValue a| ≤ 2 ^ 1024 - 2 ^ 971 := by
  have hbits : magBits a ≤ (2045 + 2) * 2 ^ 52 - 1 :=
    Nat.le_sub_one_of_lt ((fIsFinite_iff a).mp ha)
  have hmag : fMag a ≤ (2 ^ 53 - 1) * 2 ^ 2045 := by
    rw [fMag_eq, ← magValue_top_sub_one]
    exact (magValue_strictMono 52).monotone hbits
  rw [abs_fValue, div_le_iff₀ (by positivity)]
  calc (fMag a : ℚ) ≤ (((2 ^ 53 - 1) * 2 ^ 2045 : Nat) : ℚ) := Nat.cast_le.mpr hmag
    _ = (2 ^ 53 - 1) * 2 ^ 2045 := by rw [Nat.cast_mul, Nat.cast_pow]; norm_num
    _ = (2 ^ 1024 - 2 ^ 971) * 2 ^ 1074 := by
        rw [sub_mul, sub_mul, one_mul, ← pow_add, ← pow_add, ← pow_add]

variable (hb : fIsFinite b = true)
include hb

/-- A sum of finite values overflows only from the middle past the greatest finite one on. -/
theorem fadd_finite (hlt : |fValue a + fValue b| < 2 ^ 1024 - 2 ^ 970) :
    fIsFinite (fadd a b) = true := by
  rw [fadd_of_finite ha hb]
  split
  · cases fNeg a && fNeg b <;> decide
  · rw [rn64_finite_iff_lt _ (by positivity)]
    convert hlt using 1
    rw [fValue, fValue, ← add_div, abs_div, abs_of_pos (by positivity : (0 : ℚ) < 2 ^ 1074),
      Nat.cast_natAbs, Int.cast_abs, Int.cast_add, Nat.cast_pow, Nat.cast_ofNat]

/-- A finite value divided by one of magnitude at least 1 stays finite. -/
theorem fdiv_finite_of_one_le (h1 : 1 ≤ |fValue b|) : fIsFinite (fdiv a b) = true := by
  have h0 : fIsZero b = false := by
    rw [← Bool.not_eq_true]
    intro hz
    have hmag : fMag b = 0 := by
      simp only [fIsZero, Bool.and_eq_true, beq_iff_eq] at hz
      obtain ⟨he, hf⟩ := hz
      simp [fMag, he, hf]
    rw [abs_fValue, hmag] at h1
    norm_num at h1
  rw [fdiv_of_finite ha hb h0, rn64_finite_iff_lt _ (fMag_pos h0)]
  calc (fMag a : ℚ) / fMag b = |fValue a| / |fValue b| := by
        rw [abs_fValue, abs_fValue, div_div_div_cancel_right₀ (by positivity)]
    _ ≤ |fValue a| := div_le_self (abs_nonneg _) h1
    _ ≤ 2 ^ 1024 - 2 ^ 971 := abs_fValue_le ha
    _ < 2 ^ 1024 - 2 ^ 970 := by
        gcongr
        · norm_num
        · norm_num

end

/-! ### The speed of a note -/

theorem freqTable_finite {cfg : Cfg} (h : cfgLegal cfg = true) (pc : Fin 12) :
    fIsFinite cfg.freqTable[pc] = true := by
  simp only [cfgLegal, Bool.and_eq_true, List.all_eq_true] at h
  obtain ⟨⟨⟨⟨-, hfreq⟩, -⟩, -⟩, -⟩ := h
  exact hfreq _ (by simp)

theorem sampleRate_bounds {cfg : Cfg} (h : cfgLegal cfg = true) :
    1 ≤ cfg.sampleRate ∧ cfg.sampleRate < 2 ^ 32 := by
  simp only [cfgLegal, Bool.and_eq_true, decide_eq_true_eq] at h
  obtain ⟨⟨⟨⟨hrate, -⟩, -⟩, -⟩, -⟩ := h
  exact hrate

/-- A bend is below `2^17`, far less than half the spacing of the greatest binary64 values, so it
takes no frequency past the greatest of them (R184). -/
theorem bentFrequency_finite {f : F64} (hf : fIsFinite f = true) (voiceId : BitVec 16) :
    fIsFinite (fadd f (fofInt (pitchBend voiceId))) = true := by
  have hbend : (pitchBend voiceId).natAbs ≤ 2 ^ 17 := by
    rw [pitchBend]
    omega
  obtain ⟨hfin, hval⟩ := fofInt_exact (hbend.trans (by norm_num))
  refine fadd_finite hf hfin ?_
  have hbendQ : |((pitchBend voiceId : Int) : ℚ)| ≤ 2 ^ 17 := by
    rw [← Int.cast_abs, ← Nat.cast_natAbs]
    exact_mod_cast hbend
  have hspacing : (2 : ℚ) ^ 971 = 2 ^ 970 + 2 ^ 970 := by rw [← mul_two, ← pow_succ]
  calc |fValue f + fValue (fofInt (pitchBend voiceId))|
      ≤ |fValue f| + |((pitchBend voiceId : Int) : ℚ)| := by rw [hval]; exact abs_add_le _ _
    _ ≤ 2 ^ 1024 - 2 ^ 971 + 2 ^ 17 := add_le_add (abs_fValue_le hf) hbendQ
    _ < 2 ^ 1024 - 2 ^ 971 + 2 ^ 970 := by
        gcongr
        · norm_num
        · norm_num
    _ = 2 ^ 1024 - 2 ^ 970 := by rw [hspacing, sub_add_eq_sub_sub, sub_add_cancel]

end Sys2Proof.Machine
end

section
/-! SUPPORT. The note sort (R21, R185) is the library's insertion sort by startSample. -/

namespace Sys2Proof.Machine

/-- `m` starts no later than `n`. -/
abbrev Note.StartsBy (m n : Note) : Prop := m.startSample ≤ n.startSample

theorem insertNote_eq (n : Note) (ns : List Note) :
    insertNote n ns = ns.orderedInsert Note.StartsBy n := by
  induction ns with
  | nil => rfl
  | cons m ms ih => rw [insertNote, List.orderedInsert_cons, ih]

theorem sortNotes_eq (ns : List Note) : sortNotes ns = ns.insertionSort Note.StartsBy := by
  induction ns with
  | nil => rfl
  | cons n ns ih => rw [List.insertionSort_cons, ← ih, ← insertNote_eq]; rfl

theorem sortNotes_perm (ns : List Note) : (sortNotes ns).Perm ns := by
  rw [sortNotes_eq]
  exact List.perm_insertionSort _ ns

theorem sortNotes_pairwise (ns : List Note) : (sortNotes ns).Pairwise Note.StartsBy := by
  rw [sortNotes_eq]
  exact List.pairwise_insertionSort _ ns

/-- Notes that are in order already keep their order: they are a sublist of the sorted list. -/
theorem sublist_sortNotes {ms ns : List Note} (hord : ms.Pairwise Note.StartsBy)
    (hsub : ms.Sublist ns) : ms.Sublist (sortNotes ns) := by
  rw [sortNotes_eq]
  exact List.sublist_insertionSort hord hsub

/-- The notes of one start are in order in the file, so they are a sublist of the sorted list, and
no other note there has that start. -/
theorem sortNotes_filter_start (ns : List Note) (k : Nat) :
    (sortNotes ns).filter (fun n => decide (n.startSample = k)) =
      ns.filter (fun n => decide (n.startSample = k)) := by
  have hstart {n : Note} (hn : n ∈ ns.filter fun n => decide (n.startSample = k)) :
      n.startSample = k := by simpa using (List.mem_filter.mp hn).2
  have hord : (ns.filter fun n => decide (n.startSample = k)).Pairwise Note.StartsBy :=
    List.pairwise_of_forall_mem_list fun m hm n hn => by
      rw [Note.StartsBy, hstart hm, hstart hn]
  have hsub := (sublist_sortNotes hord List.filter_sublist).filter
    (fun n => decide (n.startSample = k))
  simp only [List.filter_filter, Bool.and_self] at hsub
  exact (hsub.eq_of_length ((sortNotes_perm ns).filter _).length_eq.symm).symm

end Sys2Proof.Machine
end

section
/-! SUPPORT. What the record decoders write into the song being decoded: one instrument at a time
(R170, R176, R178). -/

namespace Sys2Proof.Machine

open Sys2Proof.Claims

/-! ### Changing one instrument -/

/-- Change instrument `i` by `f`, and nothing else. -/
def Song.updateInst (i : Fin 16) (f : Instrument → Instrument) (song : Song) : Song :=
  { song with inst := song.inst.set i (f song.inst[i]) }

/-- What an INSTRUMENT_HEADER writes into its instrument (R176). -/
def Instrument.withHeader (h : InstrumentRec) (inst : Instrument) : Instrument :=
  { inst with
    voiceId := h.voiceId
    instrumentIndex := h.instrumentIndex
    shortNoteFlag := flagOf h.shortNoteByte
    noteCount := h.noteCount }

/-- An instrument with other notes. -/
def Instrument.withNotes (notes : List Note) (inst : Instrument) : Instrument :=
  { inst with notes := notes }

section
variable (i : Fin 16) (song : Song)

theorem instrumentHeaderInto_eq (h : InstrumentRec) :
    instrumentHeaderInto i h song = song.updateInst i (Instrument.withHeader h) := rfl

theorem setNotes_eq (notes : List Note) :
    setNotes i notes song = song.updateInst i (Instrument.withNotes notes) := rfl

/-- NOTE appends the note of the inherited fields (R178). -/
theorem noteInto_song (r : NoteRec) (a : Assembly) :
    (noteInto i r a).song = a.song.updateInst i fun inst => inst.withNotes (inst.notes ++
      [noteOf a.cfg a.song.waitMs a.song.inst[i].voiceId r.beat (inheritAll a.prev r)]) := rfl

variable (f : Instrument → Instrument)

theorem Song.updateInst_frame :
    song.updateInst i f = { song with inst := (song.updateInst i f).inst } := rfl

@[simp] theorem Song.updateInst_waitMs : (song.updateInst i f).waitMs = song.waitMs := rfl

@[simp] theorem Song.updateInst_same : (song.updateInst i f).inst[i] = f song.inst[i] := by
  simp [Song.updateInst]

variable {i} in
@[simp] theorem Song.updateInst_other {j : Fin 16} (h : j ≠ i) :
    (song.updateInst i f).inst[j] = song.inst[j] := by
  have : i.val ≠ j.val := fun e => h (Fin.ext e.symm)
  simp [Song.updateInst, this]

end

/-! ### Changing the instruments of a list in order -/

/-- Change each listed instrument by its own function, in order. -/
def Song.updateEach (f : Fin 16 → Instrument → Instrument) (is : List (Fin 16)) (song : Song) :
    Song :=
  is.foldl (fun s i => s.updateInst i (f i)) song

section
variable (f : Fin 16 → Instrument → Instrument) (i : Fin 16) (is : List (Fin 16)) (song : Song)

theorem Song.updateEach_cons :
    song.updateEach f (i :: is) = (song.updateInst i (f i)).updateEach f is := rfl

theorem Song.updateEach_frame :
    song.updateEach f is = { song with inst := (song.updateEach f is).inst } := by
  induction is generalizing song with
  | nil => rfl
  | cons i is ih => rw [updateEach_cons, ih, updateInst_frame]

variable {i is} in
theorem Song.updateEach_of_notMem (h : i ∉ is) : (song.updateEach f is).inst[i] = song.inst[i] := by
  induction is generalizing song with
  | nil => rfl
  | cons j is ih =>
    obtain ⟨hij, hi⟩ := not_or.mp (mt List.mem_cons.mpr h)
    rw [updateEach_cons, ih _ hi, updateInst_other _ _ hij]

variable {i is} in
theorem Song.updateEach_of_mem (hnodup : is.Nodup) (h : i ∈ is) :
    (song.updateEach f is).inst[i] = f i song.inst[i] := by
  induction is generalizing song with
  | nil => cases h
  | cons j is ih =>
    obtain ⟨hj, hnodup⟩ := List.nodup_cons.mp hnodup
    rw [updateEach_cons]
    by_cases hij : i = j
    · subst hij
      rw [updateEach_of_notMem f _ hj, updateInst_same]
    · have hi : i ∈ is := (List.mem_cons.mp h).resolve_left hij
      rw [ih _ hnodup hi, updateInst_other _ _ hij]

/-- Over all the channels, each instrument is changed once. -/
theorem Song.updateEach_channels :
    (song.updateEach f channels).inst[i] = f i song.inst[i] :=
  updateEach_of_mem f song (by decide) (mem_channels i)

end

/-! ### The song header -/

/-- The header registers of SONG_HEADER (R171, R173–R175). -/
def Song.withHeader (cfg : Cfg) (h : SongHeaderRec) (song : Song) : Song :=
  { song with
    waitMs := h.waitMs
    timeSig := (h.timeSig0, h.timeSig1)
    songStartSample := beatToSample cfg h.waitMs h.startBeat.toNat
    songEndSample := beatToSample cfg h.waitMs h.endBeat.toNat }

theorem songHeaderInto_accepted {cfg : Cfg} {h : SongHeaderRec} (hm : magicOk cfg h.magic = true)
    (song : Song) : songHeaderInto cfg h song = .ok (song.withHeader cfg h) :=
  if_pos hm

theorem songHeaderInto_rejected {cfg : Cfg} {h : SongHeaderRec} (hm : magicOk cfg h.magic = false)
    (song : Song) : songHeaderInto cfg h song = .error .invalidFormat :=
  if_neg (by simp [hm])

theorem parseHeader_refused {cfg : Cfg} {bs : List Byte} (h : magicRefused cfg bs = true) :
    parseHeader cfg bs = .error .invalidFormat :=
  if_pos h

end Sys2Proof.Machine
end

section
/-! SUPPORT. PARSE (R170) on the bytes of an assembled song (R110), part by part, with any bytes
behind each part. -/

namespace Sys2Proof.Machine

open Sys2Proof.Claims

variable {cfg : Cfg} (rest : List Byte)

theorem parseHeader_encode {h : SongHeaderRec} (hm : magicOk cfg h.magic = true) :
    parseHeader cfg (encodeSongHeader h ++ rest) = .ok (Song.empty.withHeader cfg h, rest) := by
  have hlen : 6 ≤ (encodeSongHeader h ++ rest).length := by
    simp [encodeSongHeader, bytesLe32]
  have hrefused : magicRefused cfg (encodeSongHeader h ++ rest) = false := by
    rw [magicRefused_of_le cfg hlen, magicAt_encodeSongHeader, hm]
    rfl
  simp only [parseHeader, hrefused, decodeSongHeader_encode, songHeaderInto_accepted hm,
    Bool.false_eq_true, if_false]

theorem parseInstruments_encode (insts : Vector InstrumentRec 16) (is : List (Fin 16))
    (song : Song) :
    parseInstruments is song ((is.flatMap fun i => encodeInstrumentHeader insts[i]) ++ rest) =
      .ok (song.updateEach (fun i => Instrument.withHeader insts[i]) is, rest) := by
  induction is generalizing song with
  | nil => rfl
  | cons i is ih =>
    rw [List.flatMap_cons, List.append_assoc]
    simp only [parseInstruments, decodeInstrumentHeader_encode]
    rw [ih, instrumentHeaderInto_eq, Song.updateEach_cons]

theorem parseNotes_encode (waitMs : Byte) (voiceId : BitVec 16) (prev : Prev)
    (rs : List NoteRec) :
    parseNotes cfg waitMs voiceId rs.length prev (rs.flatMap encodeNote ++ rest) =
      .ok (streamNotes cfg waitMs voiceId prev rs, rest) := by
  induction rs generalizing prev with
  | nil => rfl
  | cons r rs ih =>
    rw [List.flatMap_cons, List.append_assoc]
    simp only [List.length_cons, parseNotes, decodeNote_encode, ih, streamNotes]

/-- The notes PARSE gives an instrument for a note stream (R177). -/
def decodedNotes (cfg : Cfg) (waitMs : Byte) (voiceId : BitVec 16) (rs : List NoteRec) :
    List Note :=
  sortNotes (streamNotes cfg waitMs voiceId Prev.zero rs)

/-- A note stream leaves `voiceId` and `noteCount` of every instrument as the headers wrote them,
so the streams behind it are read with them too. -/
theorem parseStreams_encode (insts : Vector InstrumentRec 16)
    (streams : Vector (List NoteRec) 16) (is : List (Fin 16)) (song : Song)
    (hvoice : ∀ i : Fin 16, song.inst[i].voiceId = insts[i].voiceId)
    (hcount : ∀ i : Fin 16, song.inst[i].noteCount.toNat = streams[i].length) :
    parseStreams cfg is song ((is.flatMap fun i => streams[i].flatMap encodeNote) ++ rest) =
      .ok (song.updateEach (fun i => Instrument.withNotes
        (decodedNotes cfg song.waitMs insts[i].voiceId streams[i])) is, rest) := by
  induction is generalizing song with
  | nil => rfl
  | cons i is ih =>
    have hkeep (notes : List Note) (j : Fin 16) :
        (setNotes i notes song).inst[j].voiceId = song.inst[j].voiceId ∧
        (setNotes i notes song).inst[j].noteCount = song.inst[j].noteCount := by
      rw [setNotes_eq]
      by_cases hij : j = i
      · subst hij
        rw [Song.updateInst_same]
        exact ⟨rfl, rfl⟩
      · rw [Song.updateInst_other _ _ hij]
        exact ⟨rfl, rfl⟩
    rw [List.flatMap_cons, List.append_assoc]
    simp only [parseStreams, hvoice, hcount, parseNotes_encode]
    rw [ih _ (fun j => by rw [(hkeep _ j).1, hvoice]) (fun j => by rw [(hkeep _ j).2, hcount]),
      setNotes_eq, Song.updateInst_waitMs, Song.updateEach_cons]
    rfl

/-- The song PARSE gives for an assembled one: the header, then the instrument headers, then the
notes. -/
def assembledSong (cfg : Cfg) (h : SongHeaderRec) (insts : Vector InstrumentRec 16)
    (streams : Vector (List NoteRec) 16) : Song :=
  ((Song.empty.withHeader cfg h).updateEach (fun i => Instrument.withHeader insts[i])
    channels).updateEach
      (fun i => Instrument.withNotes (decodedNotes cfg h.waitMs insts[i].voiceId streams[i]))
      channels

section
variable (h : SongHeaderRec) (insts : Vector InstrumentRec 16)
  (streams : Vector (List NoteRec) 16)

theorem parse_assemble (hm : magicOk cfg h.magic = true)
    (hcount : ∀ i : Fin 16, insts[i].noteCount.toNat = streams[i].length) :
    parse cfg (assemble h insts streams ++ rest) = .ok (assembledSong cfg h insts streams) := by
  have hinst (i : Fin 16) := Song.updateEach_channels (fun i => Instrument.withHeader insts[i]) i
    (Song.empty.withHeader cfg h)
  have hstreams := parseStreams_encode (cfg := cfg) rest insts streams channels
    ((Song.empty.withHeader cfg h).updateEach (fun i => Instrument.withHeader insts[i]) channels)
    (fun i => by rw [hinst]; rfl) (fun i => by rw [hinst]; exact hcount i)
  rw [assemble, List.append_assoc, List.append_assoc]
  simp only [parse, parseHeader_encode _ hm, parseInstruments_encode, hstreams]
  rw [Song.updateEach_frame (fun i => Instrument.withHeader insts[i])]
  rfl

theorem assembledSong_frame :
    assembledSong cfg h insts streams =
      { Song.empty.withHeader cfg h with inst := (assembledSong cfg h insts streams).inst } := by
  rw [assembledSong, Song.updateEach_frame,
    Song.updateEach_frame (fun i => Instrument.withHeader insts[i])]

theorem assembledSong_inst (i : Fin 16) :
    (assembledSong cfg h insts streams).inst[i] =
      ((Song.empty.withHeader cfg h).inst[i].withHeader insts[i]).withNotes
        (decodedNotes cfg h.waitMs insts[i].voiceId streams[i]) := by
  rw [assembledSong, Song.updateEach_channels, Song.updateEach_channels]

end

end Sys2Proof.Machine
end

section
/-! The obligations of 41_song_parser: the record decoders (R171, R176, R178), sample times (R175),
the note sort (R185) and PARSE on a whole song (R170). -/

namespace Sys2Proof.Claims

open Sys2Proof.Machine

/-- Settles O21: every part of the layout parses to what its encoder was given, and the two runs
over the channels change each instrument once. -/
theorem parseOfAssembledSong : Obligations.ParseOfAssembledSong := by
  intro cfg h insts streams tail hm hcount
  have hframe := assembledSong_frame (cfg := cfg) h insts streams
  refine ⟨assembledSong cfg h insts streams, parse_assemble tail h insts streams hm hcount,
    congrArg Song.waitMs hframe, congrArg Song.timeSig hframe,
    congrArg Song.songStartSample hframe, congrArg Song.songEndSample hframe, fun i => ?_⟩
  rw [assembledSong_inst]
  rfl

/-- Settles O13: MAGIC_OK is judged first, by the record and by PARSE. -/
theorem badMagicRaisesInvalidFormat : Obligations.BadMagicRaisesInvalidFormat := by
  refine ⟨fun h s hbad => ?_, fun cfg bs hlen hbad => ?_⟩
  · have hm := (magicOk_eq_false_iff _ _).mpr hbad
    simp only [exec, execSongHeader, songHeaderInto_rejected hm]
    rfl
  · have hrefused : magicRefused cfg bs = true := by
      rw [magicRefused_of_le cfg hlen, (magicOk_eq_false_iff _ _).mpr hbad]
      rfl
    simp only [parse, parseHeader_refused hrefused]

/-- Settles O15: NOTE appends `noteOf` of the inherited fields to its own instrument. -/
theorem noteAppendsTheDecodedNote : Obligations.NoteAppendsTheDecodedNote := by
  intro i r s
  refine ⟨_, noteOf s.asm.cfg s.asm.song.waitMs s.asm.song.inst[i].voiceId r.beat
    (inheritAll s.asm.prev r), rfl, rfl, rfl, fun j hj => ?_, ?_, inherit_val _ _, inherit_val _ _,
    inherit_val _ _, inherit_val _ _, rfl, rfl, rfl, rfl, rfl, beatToSample_eq_ceil _ _ _,
    beatToSample_eq_ceil _ _ _, rfl⟩
  · rw [State.putAsm_asm, noteInto_song, Song.updateInst_other _ _ hj]
  · rw [State.putAsm_asm, noteInto_song, Song.updateInst_same]
    rfl

/-- Settles O18: `T(b) ≤ p` says `B(b) ≤ p`, so T is the ceiling of B. -/
theorem beatTimesAreCeilings : Obligations.BeatTimesAreCeilings := by
  intro cfg waitMs b
  refine ⟨beatToSample_eq_ceil cfg waitMs b, beatToSample_le_iff cfg waitMs b, ?_, ?_,
    fun l => beatToSample_mono cfg waitMs (Nat.le_add_right b l),
    beatToSample_lt_two_pow cfg waitMs, exactTime_isNat_iff waitMs b⟩
  · simp [exactTime]
  · rw [exactTime, exactTime]
    push_cast
    ring

/-- Settles O19: the bent frequency is finite, and the sample rate divides it by at least 1. -/
theorem noteSpeedIsFinite : Obligations.NoteSpeedIsFinite := by
  intro cfg voiceId pitch hlegal
  obtain ⟨hlo, hhi⟩ := sampleRate_bounds hlegal
  obtain ⟨hfin, hval⟩ := fofInt_exact (z := cfg.sampleRate) (by omega)
  refine fdiv_finite_of_one_le (bentFrequency_finite (freqTable_finite hlegal _) voiceId) hfin ?_
  rw [hval, Int.cast_natCast, Nat.abs_cast]
  exact_mod_cast hlo

/-- Settles O20: an insertion sort that puts a note before those that start no earlier. -/
theorem noteSortIsStable : Obligations.NoteSortIsStable :=
  fun ns => ⟨sortNotes_perm ns, sortNotes_pairwise ns, sortNotes_filter_start ns⟩

/-- Settles O12: an accepted magic lets the header registers be written. -/
theorem songHeaderWritesItsRegisters : Obligations.SongHeaderWritesItsRegisters := by
  intro h s hm
  simp only [exec, execSongHeader, songHeaderInto_accepted hm, ← beatToSample_eq_ceil]
  rfl

/-- Settles O14: the record changes its own instrument alone. -/
theorem instrumentHeaderWritesItsRegisters : Obligations.InstrumentHeaderWritesItsRegisters := by
  intro i h s
  have hsame : (instrumentHeaderInto i h s.asm.song).inst[i] =
      s.asm.song.inst[i].withHeader h := by
    rw [instrumentHeaderInto_eq, Song.updateInst_same]
  refine ⟨_, rfl, rfl, rfl, fun j hj => ?_, ?_⟩
  · rw [State.putAsm_asm, instrumentHeaderInto_eq, Song.updateInst_other _ _ hj]
  · simp only [State.putAsm_asm, hsame]
    exact ⟨rfl, rfl, by simp [Instrument.withHeader, flagOf], rfl, rfl⟩

end Sys2Proof.Claims
end

section
/-! SUPPORT. The samples of the banks: a quotient of two integers as binary64 (R220, R222), and what
DRUM_DECODE leaves in the bank (R222–R224). -/

namespace Sys2Proof.Machine

open Sys2Proof.Claims

/-! ### Quotients of integers -/

theorem fIsZero_eq_false {x : F64} (h : fValue x ≠ 0) : fIsZero x = false := by
  rw [← Bool.not_eq_true]
  intro hz
  simp only [fIsZero, Bool.and_eq_true, beq_iff_eq] at hz
  obtain ⟨hexp, hfrac⟩ := hz
  have hmag : fMag x = 0 := by simp [fMag, hexp, hfrac]
  exact h (abs_eq_zero.mp (by rw [abs_fValue, hmag, Nat.cast_zero, zero_div]))

/-- The quotient of two integers that convert exactly is rounded once. -/
theorem fdiv_fofInt {a b : Int} (ha : a.natAbs ≤ 2 ^ 53) (hb : b.natAbs ≤ 2 ^ 53) (h0 : b ≠ 0) :
    fIsFinite (fdiv (fofInt a) (fofInt b)) = true ∧
      RoundedTo (fdiv (fofInt a) (fofInt b)) (a / b) := by
  obtain ⟨hafin, haval⟩ := fofInt_exact ha
  obtain ⟨hbfin, hbval⟩ := fofInt_exact hb
  have hone : 1 ≤ |fValue (fofInt b)| := by
    rw [hbval]
    exact_mod_cast Int.one_le_abs h0
  have hnonzero : fIsZero (fofInt b) = false :=
    fIsZero_eq_false (by rw [hbval]; exact_mod_cast h0)
  have hfin := fdiv_finite_of_one_le hafin hbfin hone
  have hround := fdiv_roundedTo hafin hbfin hnonzero hfin
  rw [haval, hbval] at hround
  exact ⟨hfin, hround⟩

/-- An integer of at most 53 bits in units of `2^−k` is a binary64. -/
theorem exists_fValue_eq_div_two_pow {z : Int} (hz : z.natAbs ≤ 2 ^ 53) {k : Nat} (hk : k ≤ 1074) :
    ∃ y : F64, fIsFinite y = true ∧ fValue y = z / 2 ^ k := by
  obtain ⟨m, hm⟩ := exists_magValue_eq 52 (1074 - k) z.natAbs hz
  have hlt : m < 2047 * 2 ^ 52 := lt_top_of_magValue (s := 2045) hm hz (by omega)
  have hm63 : m < 2 ^ 63 := by omega
  refine ⟨ofMag 63 (decide (z < 0)) m, (fIsFinite_iff _).mpr (by rwa [magBits_ofMag hm63]), ?_⟩
  have hsplit : (2 : ℚ) ^ 1074 = 2 ^ (1074 - k) * 2 ^ k := by rw [← pow_add, Nat.sub_add_cancel hk]
  rw [fValue_eq, bitValue_ofMag 52 1074 hm63, hm, signed_div, Nat.cast_mul, Nat.cast_pow,
    Nat.cast_ofNat, hsplit, signed_eq_mul, ← mul_assoc, ← signed_eq_mul, signed_natAbs,
    mul_comm (_ : ℚ) (2 ^ (1074 - k)), mul_div_mul_left _ _ (by positivity)]

/-- A value that is a binary64 rounds to itself. -/
theorem fValue_eq_of_roundedTo {v y : F64} {x : ℚ} (hv : RoundedTo v x)
    (hy : fIsFinite y = true) (hyx : fValue y = x) : fValue v = x := by
  have hle := (hv y hy).1
  rw [hyx, sub_self, abs_zero, abs_nonpos_iff, sub_eq_zero] at hle
  exact hle

/-! ### The samples -/

/-- A waveform sample is exact (R220). -/
theorem waveSample_exact (b : Byte) :
    fIsFinite (waveSample b) = true ∧ fValue (waveSample b) = b.toInt / 128 := by
  have hb : b.toInt.natAbs ≤ 2 ^ 53 := by
    have := b.toInt_lt
    have := b.le_toInt
    omega
  obtain ⟨hfin, hround⟩ := fdiv_fofInt hb (b := 128) (by norm_num) (by norm_num)
  obtain ⟨y, hy, hval⟩ := exists_fValue_eq_div_two_pow hb (k := 7) (by norm_num)
  exact ⟨hfin, fValue_eq_of_roundedTo hround hy (by rw [hval]; norm_num)⟩

/-- A drum sample is the binary64 nearest `s/32767` (R222). -/
theorem drumValue_nearest (x : BitVec 16) : Nearest (drumValue x) ((x.toInt : ℝ) / 32767) := by
  have hx : x.toInt.natAbs ≤ 2 ^ 53 := by
    have := x.toInt_lt
    have := x.le_toInt
    omega
  obtain ⟨hfin, hround⟩ := fdiv_fofInt hx (b := 32767) (by norm_num) (by norm_num)
  exact ⟨hfin, fun y hy => by exact_mod_cast (hround y hy).1⟩

/-! ### One drum buffer -/

theorem decodeDrum_of_odd {bs : List Byte} (h : bs.length % 2 = 1) :
    decodeDrum bs = .error .truncatedInput := by
  induction bs using decodeDrum.induct with
  | case1 => cases h
  | case2 => rfl
  | case3 _ _ rest _ _ ih | case4 _ _ rest _ _ ih =>
    have hrest : rest.length % 2 = 1 := by
      rw [List.length_cons, List.length_cons] at h
      omega
    simp only [decodeDrum, ih hrest]

/-- Entries 2k and 2k + 1 of `d` both come from the big-endian pair of bytes at 2k (R222). -/
def PairedWith (bs : List Byte) (d : List F64) : Prop :=
  ∀ k : Nat, 2 * k + 1 < bs.length →
    d[2 * k]? = some (drumValue (byteAt bs (2 * k) ++ byteAt bs (2 * k + 1))) ∧
    d[2 * k + 1]? = some (drumValue (byteAt bs (2 * k) ++ byteAt bs (2 * k + 1)))

theorem PairedWith.cons {bs : List Byte} {d : List F64} (h : PairedWith bs d) (b0 b1 : Byte) :
    PairedWith (b0 :: b1 :: bs) (drumPair (be16 b0 b1) ++ d) := by
  intro k hk
  cases k with
  | zero => exact ⟨rfl, rfl⟩
  | succ k => exact h k (by rw [List.length_cons, List.length_cons] at hk; omega)

theorem decodeDrum_of_even {bs : List Byte} (h : bs.length % 2 = 0) :
    ∃ d, decodeDrum bs = .ok d ∧ d.length = bs.length ∧ PairedWith bs d := by
  induction bs using decodeDrum.induct with
  | case1 => exact ⟨[], rfl, rfl, fun k hk => absurd hk (Nat.not_lt_zero _)⟩
  | case2 => cases h
  | case3 b0 b1 rest _ _ ih | case4 b0 b1 rest _ _ ih =>
    have hrest : rest.length % 2 = 0 := by
      rw [List.length_cons, List.length_cons] at h
      omega
    obtain ⟨d, hd, hlen, hpairs⟩ := ih hrest
    exact ⟨drumPair (be16 b0 b1) ++ d, by simp only [decodeDrum, hd],
      by simp [drumPair, hlen], hpairs.cons b0 b1⟩

/-! ### The drum bank -/

/-- One odd buffer fails the bank, wherever it stands (R223). -/
theorem decodeDrums_of_odd {bufs : List (List Byte)} (h : ∃ buf ∈ bufs, buf.length % 2 = 1) :
    decodeDrums bufs = .error .truncatedInput := by
  induction bufs with
  | nil => simp at h
  | cons buf bufs ih =>
    obtain heven | hodd := Nat.mod_two_eq_zero_or_one buf.length
    · obtain ⟨d, hd, -⟩ := decodeDrum_of_even heven
      have hrest : ∃ buf ∈ bufs, buf.length % 2 = 1 := by simpa [heven] using h
      simp only [decodeDrums, hd, ih hrest]
    · simp only [decodeDrums, decodeDrum_of_odd hodd]

/-- The bank holds the decoded buffers, one by one in their order (R224). -/
theorem decodeDrums_of_even {bufs : List (List Byte)} (h : ∀ buf ∈ bufs, buf.length % 2 = 0) :
    ∃ bank, decodeDrums bufs = .ok bank ∧
      List.Forall₂ (fun buf d => decodeDrum buf = .ok d) bufs bank := by
  induction bufs with
  | nil => exact ⟨[], rfl, .nil⟩
  | cons buf bufs ih =>
    obtain ⟨hbuf, hbufs⟩ := List.forall_mem_cons.mp h
    obtain ⟨d, hd, -⟩ := decodeDrum_of_even hbuf
    obtain ⟨bank, hbank, hall⟩ := ih hbufs
    exact ⟨d :: bank, by simp only [decodeDrums, hd, hbank], .cons hd hall⟩

end Sys2Proof.Machine
end

section
/-! SUPPORT. Where CONSTRUCT decodes the drum buffers (R225, R240), and that under SILENT no operation
reads the drum bank: every operation commutes with putting another bank in its place (R225, R257). -/

namespace Sys2Proof.Machine

/-! ### The drum buffers in CONSTRUCT -/

section
variable {cfg : Cfg} {songIn waveIn : List Byte} {drumIn : List (List Byte)} {song : Song}
  {wave : WaveBank} {drum : List (List F64)}

theorem buildEngine_of_drumError {e : Err} (hsong : parse cfg songIn = .ok song)
    (hwave : decodeWaveBank waveIn = .ok wave) (hdrum : decodeDrums drumIn = .error e) :
    buildEngine cfg songIn waveIn drumIn = .error e := by
  simp only [buildEngine, hsong, hwave, hdrum]

/-- CONSTRUCT succeeds only where all four stages do (R240). -/
theorem buildEngine_ok (h : buildEngine cfg songIn waveIn drumIn = .ok (song, wave, drum)) :
    parse cfg songIn = .ok song ∧ decodeWaveBank waveIn = .ok wave ∧
      decodeDrums drumIn = .ok drum ∧ validSong cfg song = true := by
  unfold buildEngine at h
  cases hsong : parse cfg songIn with
  | error e => simp [hsong] at h
  | ok song' =>
    cases hwave : decodeWaveBank waveIn with
    | error e => simp [hsong, hwave] at h
    | ok wave' =>
      cases hdrum : decodeDrums drumIn with
      | error e => simp [hsong, hwave, hdrum] at h
      | ok drum' =>
        simp only [hsong, hwave, hdrum] at h
        split at h
        next hvalid => cases h; exact ⟨rfl, rfl, rfl, hvalid⟩
        next => cases h

/-- A legal CONSTRUCT whose stages fail answers the error and changes nothing else (R315). -/
theorem execConstruct_of_error {e : Err} (hlegal : cfgLegal cfg = true)
    (hcount : drumIn.length = cfg.numDrums)
    (h : buildEngine cfg songIn waveIn drumIn = .error e) (s : State) :
    execConstruct cfg songIn waveIn drumIn s = .next (s.failWith e) := by
  simp only [execConstruct, hlegal, hcount, h, if_true]

end

/-! ### Another drum bank -/

/-- The state with another drum bank. -/
def State.withDrum (bank : List (List F64)) (s : State) : State := { s with drum := bank }

/-- Change the next state of an outcome, if it has one. -/
def mapNext (f : State → State) :
    Host.Outcome State Fault Refusal → Host.Outcome State Fault Refusal
  | .next s => .next (f s)
  | .fault r => .fault r
  | .refused r => .refused r

section
variable (bank : List (List F64)) (s : State)

@[simp] theorem State.withDrum_mode : (s.withDrum bank).mode = s.mode := rfl
@[simp] theorem State.withDrum_cfg : (s.withDrum bank).cfg = s.cfg := rfl
@[simp] theorem State.withDrum_song : (s.withDrum bank).song = s.song := rfl
@[simp] theorem State.withDrum_wave : (s.withDrum bank).wave = s.wave := rfl
@[simp] theorem State.withDrum_ch : (s.withDrum bank).ch = s.ch := rfl
@[simp] theorem State.withDrum_p : (s.withDrum bank).p = s.p := rfl
@[simp] theorem State.withDrum_asm : (s.withDrum bank).asm = s.asm := rfl

theorem outcomeOf_map (f : State → State) (r : Except Fault State) :
    outcomeOf (r.map f) = mapNext f (outcomeOf r) := by
  cases r <;> rfl

theorem melodicVoice_withDrum (c : Fin 16) :
    melodicVoice c (s.withDrum bank) = (melodicVoice c s).map (State.withDrum bank) := by
  simp only [melodicVoice, State.withDrum_cfg, State.withDrum_wave, State.withDrum_song,
    State.withDrum_p, State.withDrum_ch]
  cases melodicStep s.cfg s.wave s.song.inst[c] s.p s.ch[c] <;> rfl

theorem execSongHeader_withDrum (h : SongHeaderRec) :
    execSongHeader h (s.withDrum bank) = mapNext (State.withDrum bank) (execSongHeader h s) := by
  simp only [execSongHeader, State.withDrum_asm]
  cases songHeaderInto s.asm.cfg h s.asm.song <;> rfl

theorem execMelodicVoice_withDrum (c : Fin 16) :
    execMelodicVoice c (s.withDrum bank) =
      mapNext (State.withDrum bank) (execMelodicVoice c s) := by
  unfold execMelodicVoice
  split
  · rw [melodicVoice_withDrum, outcomeOf_map]
  · rfl

theorem execPercVoiceSilent_withDrum (c : Fin 16) :
    execPercVoiceSilent c (s.withDrum bank) =
      mapNext (State.withDrum bank) (execPercVoiceSilent c s) := by
  unfold execPercVoiceSilent
  split <;> rfl

/-- CONSTRUCT leaves the bank or writes another, and reads nothing of it. -/
theorem execConstruct_withDrum (cfg : Cfg) (songIn waveIn : List Byte)
    (drumIn : List (List Byte)) :
    ∃ bank', execConstruct cfg songIn waveIn drumIn (s.withDrum bank) =
      mapNext (State.withDrum bank') (execConstruct cfg songIn waveIn drumIn s) := by
  unfold execConstruct
  split
  · split
    · split
      next => exact ⟨bank, rfl⟩
      next drum _ => exact ⟨drum, rfl⟩
    · exact ⟨bank, rfl⟩
  · exact ⟨bank, rfl⟩

variable {s} (hs : s.cfg.percMode = .silent)
include hs

theorem percVoice_of_silent (c : Fin 16) : percVoice c s = percVoiceSilent c s := by
  simp only [percVoice, hs]

theorem percVoice_withDrum (c : Fin 16) :
    percVoice c (s.withDrum bank) = (percVoice c s).withDrum bank := by
  rw [percVoice_of_silent hs, percVoice_of_silent (s := s.withDrum bank) hs]
  rfl

theorem voice_withDrum (c : Fin 16) :
    voice c (s.withDrum bank) = (voice c s).map (State.withDrum bank) := by
  unfold voice
  split
  · exact melodicVoice_withDrum bank s c
  · exact congrArg Except.ok (percVoice_withDrum bank hs c)

/-- A voice leaves the configuration, so the next voice runs under SILENT too. -/
theorem runVoices_withDrum (cs : List (Fin 16)) :
    runVoices cs (s.withDrum bank) = (runVoices cs s).map (State.withDrum bank) := by
  induction cs generalizing s with
  | nil => rfl
  | cons c cs ih =>
    simp only [runVoices, voice_withDrum bank hs]
    cases hv : voice c s with
    | error r => rfl
    | ok t =>
      obtain ⟨out, ch, rfl, -⟩ := voice_cases hv
      exact ih (s := s.putVoice c out ch) hs

theorem stepFrame_withDrum :
    stepFrame (s.withDrum bank) = (stepFrame s).map (State.withDrum bank) := by
  simp only [stepFrame, runVoices_withDrum bank hs]
  cases runVoices channels s <;> rfl

theorem produceFrames_withDrum (n : Nat) :
    produceFrames n (s.withDrum bank) =
      (produceFrames n s).map (Prod.map id (State.withDrum bank)) := by
  induction n generalizing s with
  | zero => rfl
  | succ n ih =>
    simp only [produceFrames, stepFrame_withDrum bank hs]
    cases hu : stepFrame s with
    | error r => rfl
    | ok u =>
      have hsilent : u.cfg.percMode = .silent := by rwa [(stepFrame_frame hu).1.cfg]
      simp only [Except.map, ih hsilent]
      cases produceFrames n u <;> rfl

theorem execProduce_withDrum (n : BitVec 32) :
    execProduce n (s.withDrum bank) = mapNext (State.withDrum bank) (execProduce n s) := by
  simp only [execProduce, State.withDrum_mode, produceFrames_withDrum bank hs]
  cases s.mode with
  | unconstructed => rfl
  | constructed => cases produceFrames n.toNat s <;> rfl

theorem execStep_withDrum :
    execStep (s.withDrum bank) = mapNext (State.withDrum bank) (execStep s) := by
  rw [execStep, stepFrame_withDrum bank hs, outcomeOf_map, execStep]

theorem execPercVoiceStream_withDrum (c : Fin 16) :
    execPercVoiceStream c (s.withDrum bank) =
      mapNext (State.withDrum bank) (execPercVoiceStream c s) := by
  unfold execPercVoiceStream
  split
  · rfl
  · exact congrArg Host.Outcome.next (percVoice_withDrum bank hs c)

/-- Under SILENT every operation gives the same outcome with another bank, but for the bank. -/
theorem exec_withDrum (i : Instr) :
    ∃ bank', exec i (s.withDrum bank) = mapNext (State.withDrum bank') (exec i s) := by
  cases i with
  | construct cfg a b d => exact execConstruct_withDrum bank s cfg a b d
  | produce n => exact ⟨bank, execProduce_withDrum bank hs n⟩
  | step => exact ⟨bank, execStep_withDrum bank hs⟩
  | melodicVoice c => exact ⟨bank, execMelodicVoice_withDrum bank s c⟩
  | percVoiceStream c => exact ⟨bank, execPercVoiceStream_withDrum bank hs c⟩
  | percVoiceSilent c => exact ⟨bank, execPercVoiceSilent_withDrum bank s c⟩
  | songHeader h => exact ⟨bank, execSongHeader_withDrum bank s h⟩
  | instrumentHeader | note | waveEntry | drumSample | readU8 | readU16le | readU32le | readS8
  | readS16be | skip | readWaveform | mixClamp => exact ⟨bank, rfl⟩

end

end Sys2Proof.Machine
end

section
/-! The obligations of 42_waveform_bank: the samples of a record (R220, R222), the layout of a drum
buffer and of the bank (R222–R224), and the drum bank under SILENT (R225). -/

namespace Sys2Proof.Claims

open Sys2Proof.Machine

/-- Settles O16: `s/128` has 8 significant bits, so its rounding is exact. -/
theorem waveEntryDividesBy128 : Obligations.WaveEntryDividesBy128 := by
  intro w b s
  refine ⟨_, rfl, rfl, fun v hv => waveEntryInto_other b s.asm.wave hv, fun j => ?_⟩
  obtain ⟨hfin, hval⟩ := waveSample_exact b[j]
  rw [State.putAsm_asm, waveEntryInto_same]
  refine ⟨hfin, hval.trans ?_⟩
  have hsign : 2 * b[j].toNat < 2 ^ 8 ↔ b[j].toNat < 0x80 := by omega
  rw [BitVec.toInt_eq_toNat_cond]
  simp only [hsign]
  split
  · rfl
  · push_cast
    norm_num

/-- Settles O17: DRUM_SAMPLE appends `drumPair`, which is `drumValue` twice. -/
theorem drumSampleIsStoredTwice : Obligations.DrumSampleIsStoredTwice :=
  fun x _ => ⟨_, drumValue x, rfl, rfl, drumValue_nearest x⟩

/-- Settles O23: the decoder takes two bytes at a time, and the buffers one by one. -/
theorem drumBufferLayout : Obligations.DrumBufferLayout := by
  refine ⟨fun bs => ⟨decodeDrum_of_odd, decodeDrum_of_even⟩,
    fun bufs => ⟨decodeDrums_of_odd, fun h => ?_⟩⟩
  obtain ⟨bank, hbank, hall⟩ := decodeDrums_of_even h
  obtain ⟨hlen, hget⟩ := List.forall₂_iff_get.mp hall
  refine ⟨bank, hbank, hlen.symm, fun k buf hk => ?_⟩
  obtain ⟨hlt, rfl⟩ := List.getElem?_eq_some_iff.mp hk
  exact ⟨bank[k], List.getElem?_eq_getElem (hlen ▸ hlt), hget k hlt (hlen ▸ hlt)⟩

/-- Settles O60: the drum buffers are a stage of every CONSTRUCT, and under SILENT every operation
commutes with another bank. -/
theorem silentNeverReadsTheDrumBank : Obligations.SilentNeverReadsTheDrumBank := by
  refine ⟨fun cfg songIn waveIn drumIn s song wave hlegal hcount hsong hwave hodd => ?_,
    fun cfg songIn waveIn drumIn s t a b h hresult => ?_, fun i s bank hs => ?_⟩
  · exact execConstruct_of_error hlegal hcount
      (buildEngine_of_drumError hsong hwave (decodeDrums_of_odd hodd)) s
  · change execConstruct cfg songIn waveIn drumIn s = .next t at h
    obtain ⟨-, e⟩ | ⟨-, -, e⟩ | ⟨-, -, _, -, e⟩ | ⟨-, -, song, wave, drum, hbuild, e⟩ :=
      execConstruct_cases cfg songIn waveIn drumIn s <;> rw [e] at h <;> cases h
    · cases hresult
    · obtain ⟨-, -, hdrum, -⟩ := buildEngine_ok hbuild
      exact hdrum
  · obtain ⟨bank', e⟩ := exec_withDrum bank hs i
    change exec i { s with drum := bank } = _ at e
    rw [e]
    exact ⟨fun t ht => ⟨bank', by rw [ht]; rfl⟩, fun r hr => by rw [hr]; rfl,
      fun r hr => by rw [hr]; rfl⟩

end Sys2Proof.Claims
end

section
/-! SUPPORT. The voice of a channel as a function of what it reads (R244, R246, R256, R257), and
what it answers in each of its cases. -/

namespace Sys2Proof.Machine

open Sys2Proof.Claims

/-! ### The voice as a function -/

/-- VOICE(c) (R244): the contribution and the registers that it leaves. -/
def voiceStep (c : Fin 16) (s : State) : Except Fault (Contribution × Channel) :=
  if isMelodic c then melodicStep s.cfg s.wave s.song.inst[c] s.p s.ch[c]
  else .ok (match s.cfg.percMode with
    | .stream => percStep s.cfg s.drum s.song.inst[c] s.p s.ch[c]
    | .silent => (Contribution.silence, s.ch[c]))

section
variable {c : Fin 16} {s : State}

theorem voiceStep_melodic (hc : isMelodic c = true) :
    voiceStep c s = melodicStep s.cfg s.wave s.song.inst[c] s.p s.ch[c] := if_pos hc

theorem voiceStep_stream (hc : isMelodic c = false) (hmode : s.cfg.percMode = .stream) :
    voiceStep c s = .ok (percStep s.cfg s.drum s.song.inst[c] s.p s.ch[c]) := by
  simp [voiceStep, hc, hmode]

theorem voiceStep_silent (hc : isMelodic c = false) (hmode : s.cfg.percMode = .silent) :
    voiceStep c s = .ok (Contribution.silence, s.ch[c]) := by
  simp [voiceStep, hc, hmode]

/-- VOICE(c) writes what `voiceStep` gives, and nothing else (R48). -/
theorem voice_eq (c : Fin 16) (s : State) :
    voice c s = (voiceStep c s).map fun r => s.putVoice c r.1 r.2 := by
  cases hc : isMelodic c with
  | true =>
    rw [voiceStep_melodic hc, voice, if_pos hc, melodicVoice]
    cases melodicStep s.cfg s.wave s.song.inst[c] s.p s.ch[c] <;> rfl
  | false =>
    rw [voice, if_neg (by simp [hc]), percVoice]
    cases hmode : s.cfg.percMode with
    | stream => rw [voiceStep_stream hc hmode]; rfl
    | silent => rw [voiceStep_silent hc hmode]; rfl

theorem isMelodic_iff : isMelodic c = true ↔ c.val < 8 := decide_eq_true_iff

theorem isMelodic_eq_false_iff : isMelodic c = false ↔ 8 ≤ c.val :=
  decide_eq_false_iff_not.trans Nat.not_lt

theorem isMelodic_of_lt (h : c.val < 8) : isMelodic c = true := isMelodic_iff.mpr h

theorem isMelodic_of_le (h : 8 ≤ c.val) : isMelodic c = false := isMelodic_eq_false_iff.mpr h

/-! ### The requests for a voice -/

theorem exec_melodicVoice (hc : isMelodic c = true) :
    exec (.melodicVoice c) s = outcomeOf (voice c s) := by
  change execMelodicVoice c s = _
  rw [execMelodicVoice, voice, if_pos hc, if_pos hc]

theorem exec_percVoiceStream (hc : isMelodic c = false) :
    exec (.percVoiceStream c) s = outcomeOf (voice c s) := by
  change execPercVoiceStream c s = _
  rw [execPercVoiceStream, voice, if_neg (by simp [hc]), if_neg (by simp [hc])]
  rfl

theorem exec_percVoiceSilent (hc : isMelodic c = false) :
    exec (.percVoiceSilent c) s = .next (percVoiceSilent c s) := by
  change execPercVoiceSilent c s = _
  rw [execPercVoiceSilent, if_neg (by simp [hc])]

theorem outcomeOf_voice_ok {out : Contribution} {ch : Channel} (h : voiceStep c s = .ok (out, ch)) :
    outcomeOf (voice c s) = .next (s.putVoice c out ch) := by
  rw [voice_eq, h]
  rfl

theorem outcomeOf_voice_error {r : Fault} (h : voiceStep c s = .error r) :
    outcomeOf (voice c s) = .fault r := by
  rw [voice_eq, h]
  rfl

/-- A voice that writes the registers it found writes its contribution alone. -/
theorem putVoice_same_ch (out : Contribution) :
    s.putVoice c out s.ch[c] = { s with contrib := s.contrib.set c out } := by
  simp [State.putVoice]

/-! ### The current note -/

theorem sounding_iff {n : Note} :
    Sounding s c n ↔ currentNote s.song.inst[c] s.ch[c].noteIndex = some n ∧
      started s.p n = true := by
  unfold Sounding currentNote started
  rw [decide_eq_true_iff]
  constructor
  · rintro ⟨hlt, hn, hp⟩
    exact ⟨by rwa [if_pos hlt], hp⟩
  · rintro ⟨hn, hp⟩
    split at hn
    next hlt => exact ⟨hlt, hn, hp⟩
    next => cases hn

/-- A waiting channel has no note that has started. -/
theorem not_started_of_waiting (h : Waiting s c) {n : Note}
    (hn : currentNote s.song.inst[c] s.ch[c].noteIndex = some n) : started s.p n = false := by
  obtain ⟨hlt, hget⟩ := currentNote_some hn
  obtain hle | ⟨m, -, hm, hp⟩ := h
  · omega
  · obtain rfl : n = m := Option.some.inj (hget.symm.trans hm)
    exact decide_eq_false (Nat.not_le.mpr hp)

end

/-! ### A voice without a started note -/

section
variable {inst : Instrument} {ch : Channel} {p : Nat}
  (h : ∀ n, currentNote inst ch.noteIndex = some n → started p n = false)
include h

theorem melodicStep_idle (cfg : Cfg) (wave : WaveBank) :
    melodicStep cfg wave inst p ch = .ok (Contribution.silence, ch) := by
  unfold melodicStep
  split
  next => rfl
  next n hn => simp [h n hn]

theorem percStep_idle (cfg : Cfg) (drum : List (List F64)) :
    percStep cfg drum inst p ch = (Contribution.silence, ch) := by
  unfold percStep
  split
  next => rfl
  next n hn => simp [h n hn]

end

/-- No voice sounds, whatever its kind, where the channel has no note that has started (R245). -/
theorem voiceStep_idle {c : Fin 16} {s : State}
    (h : ∀ n, currentNote s.song.inst[c] s.ch[c].noteIndex = some n → started s.p n = false) :
    voiceStep c s = .ok (Contribution.silence, s.ch[c]) := by
  cases hc : isMelodic c with
  | true => rw [voiceStep_melodic hc, melodicStep_idle h]
  | false =>
    cases hmode : s.cfg.percMode with
    | stream => rw [voiceStep_stream hc hmode, percStep_idle h]
    | silent => rw [voiceStep_silent hc hmode]

/-! ### A voice with a started note -/

section
variable {c : Fin 16} {s : State} {n : Note} (hsound : Sounding s c n)
include hsound

theorem voiceStep_gateClosed (hc : isMelodic c = true)
    (hgate : gateOpen s.song.inst[c] s.ch[c] = false) :
    voiceStep c s = .ok (Contribution.silence, s.ch[c].endIf s.p n) := by
  obtain ⟨hn, hs⟩ := sounding_iff.mp hsound
  rw [voiceStep_melodic hc]
  simp only [melodicStep, hn, hs, hgate, if_true, Bool.false_eq_true, if_false]

theorem voiceStep_tone (hc : isMelodic c = true)
    (hgate : gateOpen s.song.inst[c] s.ch[c] = true)
    (hpos : fIsFinite (readPosition s.cfg n.octave s.ch[c].wavetableOffset) = true) :
    voiceStep c s = .ok (contributionOf s.cfg.panLaw n
        (waveAt s.wave s.song.inst[c].instrumentIndex
          (tableIndex (readPosition s.cfg n.octave s.ch[c].wavetableOffset))),
      (s.ch[c].tone n).endIf s.p n) := by
  obtain ⟨hn, hs⟩ := sounding_iff.mp hsound
  rw [voiceStep_melodic hc]
  simp only [melodicStep, melodicSample, hn, hs, hgate, hpos, if_true]

theorem voiceStep_fault (hc : isMelodic c = true)
    (hgate : gateOpen s.song.inst[c] s.ch[c] = true)
    (hpos : fIsFinite (readPosition s.cfg n.octave s.ch[c].wavetableOffset) = false) :
    voiceStep c s = .error .nonFinitePosition := by
  obtain ⟨hn, hs⟩ := sounding_iff.mp hsound
  rw [voiceStep_melodic hc]
  simp only [melodicStep, melodicSample, hn, hs, hgate, hpos, if_true, Bool.false_eq_true,
    if_false]

section
variable (hc : isMelodic c = false) (hmode : s.cfg.percMode = .stream)
include hc hmode

theorem voiceStep_drum {x : F64}
    (hx : (drumAt s.drum s.song.inst[c].instrumentIndex)[s.ch[c].samplesPlayed]? = some x) :
    voiceStep c s = .ok (contributionOf s.cfg.panLaw n x,
      { s.ch[c] with samplesPlayed := s.ch[c].samplesPlayed + 1 }.endIf s.p n) := by
  obtain ⟨hn, hs⟩ := sounding_iff.mp hsound
  rw [voiceStep_stream hc hmode]
  simp only [percStep, hn, hs, hx, if_true]

theorem voiceStep_exhausted
    (hx : (drumAt s.drum s.song.inst[c].instrumentIndex)[s.ch[c].samplesPlayed]? = none) :
    voiceStep c s = .ok (Contribution.silence, s.ch[c].endIf s.p n) := by
  obtain ⟨hn, hs⟩ := sounding_iff.mp hsound
  rw [voiceStep_stream hc hmode]
  simp only [percStep, hn, hs, hx, if_true]

end

end

/-! ### When a voice faults -/

section
variable {c : Fin 16} {s : State}

theorem gateOpen_iff {inst : Instrument} {ch : Channel} :
    gateOpen inst ch = true ↔ inst.shortNoteFlag = false ∨ ch.samplesPlayed ≤ 256 := by
  rw [gateOpen, Bool.or_eq_true, Bool.not_eq_true', decide_eq_true_iff, shortNoteLimit]

theorem voiceStep_of_positionFinite (h : isMelodic c = true → s.PositionFinite c) :
    ∃ r, voiceStep c s = .ok r := by
  cases hc : isMelodic c with
  | false => exact ⟨_, by rw [voiceStep, if_neg (by simp [hc])]⟩
  | true =>
    by_cases hidle : ∀ n, currentNote s.song.inst[c] s.ch[c].noteIndex = some n →
        started s.p n = false
    · exact ⟨_, voiceStep_idle hidle⟩
    · push Not at hidle
      obtain ⟨n, hn, hs⟩ := hidle
      have hs : started s.p n = true := by simpa using hs
      have hsound := sounding_iff.mpr ⟨hn, hs⟩
      cases hgate : gateOpen s.song.inst[c] s.ch[c] with
      | false => exact ⟨_, voiceStep_gateClosed hsound hc hgate⟩
      | true => exact ⟨_, voiceStep_tone hsound hc hgate (h hc n hn hs hgate)⟩

/-- A channel whose next read position is not finite has a note that sounds there. -/
theorem voiceStep_of_not_positionFinite (hc : isMelodic c = true) (h : ¬s.PositionFinite c) :
    voiceStep c s = .error .nonFinitePosition := by
  unfold State.PositionFinite at h
  push Not at h
  obtain ⟨n, hn, hs, hgate, hpos⟩ := h
  exact voiceStep_fault (sounding_iff.mpr ⟨hn, hs⟩) hc hgate (by simpa using hpos)

end

end Sys2Proof.Machine
end

section
/-! The obligations of 43_playback_engine on the voices (R245–R257). -/

namespace Sys2Proof.Claims

open Sys2Proof.Machine

theorem endIf_eq_afterNote (p : Nat) (n : Note) (ch : Channel) :
    ch.endIf p n = afterNote p n ch := by
  simp only [Channel.endIf, ended, afterNote, decide_eq_true_eq]
  rfl

/-- Settles O35: no note has started. -/
theorem melodicVoiceWaits : Obligations.MelodicVoiceWaits := by
  intro c s hc hwait
  rw [exec_melodicVoice (isMelodic_of_lt hc),
    outcomeOf_voice_ok (voiceStep_idle fun _ => not_started_of_waiting hwait)]
  rfl

/-- Settles O36: the voice takes its tone branch, and the indices are inside the stores. -/
theorem melodicVoiceSounds : Obligations.MelodicVoiceSounds := by
  intro c s n octave w j pos hc hsound hgate hoct hw hpos hfin hj
  have hread : readPosition s.cfg n.octave s.ch[c].wavetableOffset = pos := by
    rw [hpos, ← readPosition_of_lt, hoct]
    rfl
  have hindex : tableIndex pos = j := by
    rw [← fFloorInt_eq] at hj
    exact Fin.ext ((congrArg Int.toNat hj.symm).trans (Int.toNat_natCast _))
  have hwave : waveAt s.wave s.song.inst[c].instrumentIndex j = s.wave[w][j] := by
    rw [waveAt_of_lt s.wave j (hw ▸ w.isLt)]
    simp only [← hw]
    rfl
  have hstep := voiceStep_tone hsound (isMelodic_of_lt hc) (gateOpen_iff.mpr hgate)
    (by rwa [hread])
  rw [hread, hindex, hwave, endIf_eq_afterNote] at hstep
  rw [exec_melodicVoice (isMelodic_of_lt hc), outcomeOf_voice_ok hstep]
  rfl

/-- Settles O37: a closed gate skips the tone and not the note's end. -/
theorem shortNoteGateCloses : Obligations.ShortNoteGateCloses := by
  intro c s n hc hsound hflag hplayed
  have hgate : gateOpen s.song.inst[c] s.ch[c] = false := by
    rw [← Bool.not_eq_true, gateOpen_iff, hflag]
    simpa using hplayed
  have hstep := voiceStep_gateClosed hsound (isMelodic_of_lt hc) hgate
  rw [endIf_eq_afterNote] at hstep
  rw [exec_melodicVoice (isMelodic_of_lt hc), outcomeOf_voice_ok hstep]
  rfl

/-- Settles O39: the cases of PERC_VOICE_STREAM, and the silent voice under SILENT. -/
theorem percVoiceStreams : Obligations.PercVoiceStreams := by
  intro c s hc
  have hc := isMelodic_of_le hc
  simp only [exec_percVoiceStream hc]
  refine ⟨fun hmode => ⟨fun hwait => ?_, fun n d hsound hd => ⟨fun x hx => ?_, fun hlen => ?_⟩⟩,
    fun hmode => ?_⟩
  · rw [outcomeOf_voice_ok (voiceStep_idle fun _ => not_started_of_waiting hwait)]
    rfl
  · rw [← drumAt_of_some hd] at hx
    have hstep := voiceStep_drum hsound hc hmode hx
    rw [endIf_eq_afterNote] at hstep
    rw [outcomeOf_voice_ok hstep]
    rfl
  · rw [← drumAt_of_some hd, ← List.getElem?_eq_none_iff] at hlen
    have hstep := voiceStep_exhausted hsound hc hmode hlen
    rw [endIf_eq_afterNote] at hstep
    rw [outcomeOf_voice_ok hstep]
    rfl
  · rw [outcomeOf_voice_ok (voiceStep_silent hc hmode), putVoice_same_ch]
    rfl

/-- Settles O41: the only stop on a channel of its own kind is the fault of a melodic tone. -/
theorem voiceStopsByName : Obligations.VoiceStopsByName := by
  refine ⟨fun c s => ⟨fun hc => if_neg (by simp [isMelodic_of_le hc]), fun hc =>
      ⟨if_pos (isMelodic_of_lt hc), if_pos (isMelodic_of_lt hc)⟩⟩,
    fun c s hc => ?_, fun c s hc => ?_⟩
  · have hc := isMelodic_of_le hc
    obtain ⟨r, hr⟩ := voiceStep_of_positionFinite (c := c) (s := s) (by simp [hc])
    rw [exec_percVoiceStream hc]
    exact ⟨_, outcomeOf_voice_ok hr⟩
  · have hc := isMelodic_of_lt hc
    rw [exec_melodicVoice hc]
    refine ⟨fun h => ?_, fun h => outcomeOf_voice_error (voiceStep_of_not_positionFinite hc h)⟩
    obtain ⟨r, hr⟩ := voiceStep_of_positionFinite fun _ => h
    exact ⟨_, outcomeOf_voice_ok hr⟩

end Sys2Proof.Claims
end

section
/-! SUPPORT. A STEP as 16 voices that do not read each other's registers (R48, R243), and a PRODUCE
as a run of STEPs (R242). -/

namespace Sys2Proof.Machine

open Sys2Proof.Claims

/-! ### The voices of a STEP are independent -/

section
variable {c d : Fin 16} {s t : State}

/-- A voice does not read what the voice of another channel writes (R48). -/
theorem voiceStep_putVoice_other (h : d ≠ c) (out : Contribution) (ch : Channel) :
    voiceStep c (s.putVoice d out ch) = voiceStep c s := by
  rw [voiceStep, State.putVoice_ch_other s d c out ch h]
  rfl

theorem voice_of_voiceStep_ok {r : Contribution × Channel} (h : voiceStep c s = .ok r) :
    voice c s = .ok (s.putVoice c r.1 r.2) := by
  rw [voice_eq, h]
  rfl

theorem voice_ok (h : voice c s = .ok t) :
    ∃ out ch, voiceStep c s = .ok (out, ch) ∧ t = s.putVoice c out ch := by
  rw [voice_eq] at h
  cases hstep : voiceStep c s with
  | error r => rw [hstep] at h; cases h
  | ok r => rw [hstep] at h; cases h; exact ⟨r.1, r.2, rfl, rfl⟩

theorem runVoices_contrib_of_notMem {cs : List (Fin 16)} (hd : d ∉ cs)
    (h : runVoices cs s = .ok t) : t.contrib[d] = s.contrib[d] := by
  induction cs generalizing s with
  | nil => cases h; rfl
  | cons c cs ih =>
    obtain ⟨u, hu, ht⟩ := runVoices_cons h
    obtain ⟨out, ch, -, rfl⟩ := voice_ok hu
    obtain ⟨hne, hd⟩ := not_or.mp (List.mem_cons.not.mp hd)
    rw [ih hd ht, State.putVoice_contrib_other s c d out ch (Ne.symm hne)]

/-- Each channel is left with what its own voice gives in the state before the STEP. -/
theorem runVoices_voiceStep {cs : List (Fin 16)} (hcs : cs.Nodup) (h : runVoices cs s = .ok t)
    (hc : c ∈ cs) : voiceStep c s = .ok (t.contrib[c], t.ch[c]) := by
  induction cs generalizing s with
  | nil => cases hc
  | cons d cs ih =>
    obtain ⟨hd, hcs⟩ := List.nodup_cons.mp hcs
    obtain ⟨u, hu, ht⟩ := runVoices_cons h
    obtain ⟨out, ch, hstep, rfl⟩ := voice_ok hu
    obtain rfl | hne := eq_or_ne d c
    · rw [runVoices_ch_of_notMem hd ht, runVoices_contrib_of_notMem hd ht,
        State.putVoice_ch_same, State.putVoice_contrib_same, hstep]
    · rw [← voiceStep_putVoice_other hne out ch]
      exact ih hcs ht ((List.mem_cons.mp hc).resolve_left hne.symm)

/-- The voices complete where each of them does. -/
theorem runVoices_of_ok {cs : List (Fin 16)} (hcs : cs.Nodup)
    (h : ∀ c ∈ cs, ∃ r, voiceStep c s = .ok r) : ∃ t, runVoices cs s = .ok t := by
  induction cs generalizing s with
  | nil => exact ⟨s, rfl⟩
  | cons d cs ih =>
    obtain ⟨hd, hcs⟩ := List.nodup_cons.mp hcs
    obtain ⟨hdok, hrest⟩ := List.forall_mem_cons.mp h
    obtain ⟨⟨out, ch⟩, hstep⟩ := hdok
    obtain ⟨t, ht⟩ := ih (s := s.putVoice d out ch) hcs fun c hc => by
      rw [voiceStep_putVoice_other (ne_of_mem_of_not_mem hc hd).symm]
      exact hrest c hc
    exact ⟨t, by simp only [runVoices, voice_of_voiceStep_ok hstep, ht]⟩

end

/-! ### STEP -/

section
variable {s t : State}

theorem stepFrame_voiceStep (h : stepFrame s = .ok t) (c : Fin 16) :
    voiceStep c s = .ok (t.contrib[c], t.ch[c]) := by
  obtain ⟨u, hu, rfl⟩ := stepFrame_cases h
  have hvoice := runVoices_voiceStep (by decide) hu (mem_channels c)
  exact hvoice

theorem stepFrame_mix (h : stepFrame s = .ok t) : t.frame = mixFrame t.contrib := by
  obtain ⟨u, -, rfl⟩ := stepFrame_cases h
  rfl

theorem stepFrame_of_ok (h : ∀ c, ∃ r, voiceStep c s = .ok r) : ∃ t, stepFrame s = .ok t := by
  obtain ⟨u, hu⟩ := runVoices_of_ok (cs := channels) (by decide) fun c _ => h c
  exact ⟨(mixClamp u).advance, by simp only [stepFrame, hu]⟩

/-- One voice that faults is enough for the STEP to fault (R250, R318). -/
theorem stepFrame_of_error {c : Fin 16} {r : Fault} (h : voiceStep c s = .error r) :
    stepFrame s = .error .nonFinitePosition := by
  cases hstep : stepFrame s with
  | error r => rfl
  | ok t =>
    rw [stepFrame_voiceStep hstep c] at h
    cases h

/-- What SameStores leaves open. -/
theorem SameStores.eq_with (h : SameStores s t) :
    t = { s with ch := t.ch, p := t.p, contrib := t.contrib, frame := t.frame } := by
  obtain ⟨hmode, hcfg, hsong, hwave, hdrum, hasm, hresult, hpending⟩ := h
  rw [← hmode, ← hcfg, ← hsong, ← hwave, ← hdrum, ← hasm, ← hresult, ← hpending]

theorem exec_step_ok (h : stepFrame s = .ok t) : exec .step s = .next t := by
  change outcomeOf (stepFrame s) = _
  rw [h]
  rfl

theorem exec_step_error {r : Fault} (h : stepFrame s = .error r) : exec .step s = .fault r := by
  change outcomeOf (stepFrame s) = _
  rw [h]
  rfl

theorem stepFrame_error_of_exec {r : Fault} (h : exec .step s = .fault r) :
    stepFrame s = .error r := by
  change outcomeOf (stepFrame s) = .fault r at h
  cases hu : stepFrame s with
  | error _ => rfl
  | ok u => rw [hu] at h; cases h

end

/-! ### PRODUCE -/

section
variable {s t : State}

theorem produceFrames_cons {n : Nat} {fs : List Frame} (h : produceFrames (n + 1) s = .ok (fs, t)) :
    ∃ u gs, stepFrame s = .ok u ∧ produceFrames n u = .ok (gs, t) ∧ fs = u.frame :: gs := by
  unfold produceFrames at h
  split at h
  · cases h
  · rename_i u hu
    split at h
    · rename_i gs v hv
      cases h
      exact ⟨u, gs, hu, hv, rfl⟩
    · cases h

/-- What every STEP keeps, a PRODUCE keeps; and what it gives every frame, all frames have. -/
theorem produceFrames_invariant {P : State → Prop} {Q : Frame → Prop}
    (hstep : ∀ s t, P s → stepFrame s = .ok t → P t ∧ Q t.frame) {n : Nat} {fs : List Frame}
    (hs : P s) (h : produceFrames n s = .ok (fs, t)) : P t ∧ ∀ f ∈ fs, Q f := by
  induction n generalizing s fs with
  | zero => cases h; exact ⟨hs, fun f hf => absurd hf List.not_mem_nil⟩
  | succ n ih =>
    obtain ⟨u, gs, hu, hrest, rfl⟩ := produceFrames_cons h
    obtain ⟨hPu, hQu⟩ := hstep s u hs hu
    obtain ⟨hPt, hQ⟩ := ih hPu hrest
    exact ⟨hPt, List.forall_mem_cons.mpr ⟨hQu, hQ⟩⟩

/-- A PRODUCE completes where `P k` lets the STEP number `k` complete and gives `P (k + 1)` for the
next one. -/
theorem produceFrames_of_progress {P : Nat → State → Prop} {N : Nat}
    (hstep : ∀ k < N, ∀ s, P k s → ∃ t, stepFrame s = .ok t ∧ P (k + 1) t) {n k : Nat}
    (hk : k + n ≤ N) (hs : P k s) : ∃ fs t, produceFrames n s = .ok (fs, t) := by
  induction n generalizing s k with
  | zero => exact ⟨[], s, rfl⟩
  | succ n ih =>
    obtain ⟨u, hu, hPu⟩ := hstep k (by omega) s hs
    obtain ⟨fs, t, ht⟩ := ih (k := k + 1) (by omega) hPu
    exact ⟨u.frame :: fs, t, by simp only [produceFrames, hu, ht]⟩

theorem exec_produce_ok {n : BitVec 32} {fs : List Frame} (hmode : s.mode = .constructed)
    (h : produceFrames n.toNat s = .ok (fs, t)) :
    exec (.produce n) s = .next (t.putResult (.frames fs)) := by
  change execProduce n s = _
  simp only [execProduce, hmode, h]

/-- A first STEP that faults ends a PRODUCE of one frame or more (R318). -/
theorem exec_produce_error {n : BitVec 32} {r : Fault} (hmode : s.mode = .constructed)
    (hn : n ≠ 0#32) (h : stepFrame s = .error r) : exec (.produce n) s = .fault r := by
  change execProduce n s = _
  obtain ⟨k, hk⟩ : ∃ k, n.toNat = k + 1 :=
    Nat.exists_eq_succ_of_ne_zero fun h0 => hn (BitVec.eq_of_toNat_eq h0)
  simp only [execProduce, hmode, hk, produceFrames, h]

end

/-! ### The silence after the last note -/

/-- MIX_CLAMP of silence is a frame of two +0.0. -/
theorem mixFrame_of_silence {contrib : Vector Contribution 16}
    (h : ∀ c : Fin 16, contrib[c] = Contribution.silence) : mixFrame contrib = ⟨0#32, 0#32⟩ := by
  have hall : contrib = Vector.replicate 16 Contribution.silence :=
    Vector.ext fun i hi => by simpa using h ⟨i, hi⟩
  rw [hall]
  decide +kernel

/-- No channel that plays has a note left. Under SILENT a percussion channel does not play
(R257). -/
def State.AllNotesOver (s : State) : Prop :=
  ∀ c : Fin 16, (c.val < 8 ∨ s.cfg.percMode = .stream) →
    s.song.inst[c].noteCount.toNat ≤ s.ch[c].noteIndex

theorem State.AllNotesOver.voiceStep {s : State} (h : s.AllNotesOver) (c : Fin 16) :
    voiceStep c s = .ok (Contribution.silence, s.ch[c]) := by
  by_cases hplays : c.val < 8 ∨ s.cfg.percMode = .stream
  · exact voiceStep_idle fun _ => not_started_of_waiting (.inl (h c hplays))
  · obtain ⟨hc, hmode⟩ := not_or.mp hplays
    refine voiceStep_silent (isMelodic_of_le (Nat.le_of_not_lt hc)) ?_
    cases hperc : s.cfg.percMode with
    | stream => exact absurd hperc hmode
    | silent => rfl

/-- `t` is `s` but for p, the contributions and the frame. -/
def SameRegisters (s t : State) : Prop := SameStores s t ∧ t.ch = s.ch

/-- A STEP of silent voices keeps the registers, so the next one is silent too. -/
theorem State.AllNotesOver.stepFrame {s u : State} (h : s.AllNotesOver) (hu : SameRegisters s u) :
    ∃ t, stepFrame u = .ok t ∧ SameRegisters s t ∧ t.frame = ⟨0#32, 0#32⟩ := by
  obtain ⟨hsame, hch⟩ := hu
  have hover : u.AllNotesOver := by
    unfold State.AllNotesOver
    rw [hsame.cfg, hsame.song, hch]
    exact h
  obtain ⟨t, ht⟩ := stepFrame_of_ok fun c => ⟨_, hover.voiceStep c⟩
  have hleft (c : Fin 16) : t.contrib[c] = Contribution.silence ∧ t.ch[c] = u.ch[c] :=
    Prod.ext_iff.mp (Except.ok.inj ((stepFrame_voiceStep ht c).symm.trans (hover.voiceStep c)))
  have htch : t.ch = u.ch := Vector.ext fun i hi => (hleft ⟨i, hi⟩).2
  refine ⟨t, ht, ⟨hsame.trans (stepFrame_frame ht).1, htch.trans hch⟩, ?_⟩
  rw [stepFrame_mix ht, mixFrame_of_silence fun c => (hleft c).1]

end Sys2Proof.Machine
end

section
/-! The obligations of 43_playback_engine on STEP and PRODUCE (R242, R243, R257, R261, R269). -/

namespace Sys2Proof.Claims

open Sys2Proof.Machine

/-- Settles O30: PRODUCE is its STEPs, and a STEP keeps the stores. -/
theorem produceReturnsItsFrames : Obligations.ProduceReturnsItsFrames := by
  refine ⟨fun n s t h => ?_, fun s hmode => ?_, fun s t hmode h => ?_,
    fun n s r hmode hn h => exec_produce_error hmode hn (stepFrame_error_of_exec h)⟩
  · obtain ⟨-, fs, u, hu, rfl⟩ := execProduce_cases h
    obtain ⟨hsame, hp, hlen⟩ := produceFrames_frame hu
    exact ⟨⟨fs, rfl, hlen⟩, hp, congrArg (State.putResult (.frames fs)) hsame.eq_with⟩
  · rw [exec_produce_ok (n := 0#32) hmode (t := s) (fs := []) rfl]
    rfl
  · have hstep := stepFrame_of_exec h
    have hone : produceFrames 1 s = .ok ([t.frame], t) := by simp only [produceFrames, hstep]
    rw [exec_produce_ok (n := 1#32) hmode hone]
    rfl

/-- Settles O32: STEP by STEP the voices are silent and the registers stay. -/
theorem silenceAfterTheLastNote : Obligations.SilenceAfterTheLastNote := by
  intro n s hmode hover
  have hover : s.AllNotesOver := hover
  have hstart : SameRegisters s s := ⟨SameStores.refl s, rfl⟩
  obtain ⟨fs, t, ht⟩ := produceFrames_of_progress (N := n.toNat) (P := fun _ => SameRegisters s)
    (fun _ _ _ hu => (hover.stepFrame hu).imp fun _ h => ⟨h.1, h.2.1⟩)
    (Nat.zero_add n.toNat).le hstart
  obtain ⟨⟨-, hch⟩, hframes⟩ := produceFrames_invariant (P := SameRegisters s)
    (Q := (· = ⟨0#32, 0#32⟩)) (fun u v hu hv => by
      obtain ⟨t, ht, hkeep⟩ := hover.stepFrame hu
      obtain rfl : t = v := Except.ok.inj (ht.symm.trans hv)
      exact hkeep) hstart ht
  obtain ⟨-, hp, hlen⟩ := produceFrames_frame ht
  have hfs : fs = List.replicate n.toNat ⟨0#32, 0#32⟩ := List.eq_replicate_iff.mpr ⟨hlen, hframes⟩
  exact ⟨_, exec_produce_ok hmode ht, congrArg HostResult.frames hfs, hch, hp⟩

/-- Settles O34: no voice faults, and the stores are kept. -/
theorem stepCompletes : Obligations.StepCompletes := by
  intro s _ hpos
  obtain ⟨t, ht⟩ := stepFrame_of_ok fun c => voiceStep_of_positionFinite (hpos c)
  obtain ⟨hsame, hp⟩ := stepFrame_frame ht
  refine ⟨t, exec_step_ok ht, ?_⟩
  rw [← hp]
  exact hsame.eq_with

/-- Settles O38: the voice faults, and one voice that faults ends the STEP and the PRODUCE. -/
theorem nonFinitePositionFaults : Obligations.NonFinitePositionFaults := by
  intro c s n octave hc hsound hgate hoct hpos
  have hread : fIsFinite (readPosition s.cfg n.octave s.ch[c].wavetableOffset) = false := by
    rw [← readPosition_of_lt, hoct] at hpos
    exact hpos
  have hvoice := voiceStep_fault hsound (isMelodic_of_lt hc) (gateOpen_iff.mpr hgate) hread
  have hstep := stepFrame_of_error hvoice
  exact ⟨by rw [exec_melodicVoice (isMelodic_of_lt hc), outcomeOf_voice_error hvoice],
    exec_step_error hstep, fun k hk hmode => exec_produce_error hmode hk hstep⟩

/-- Settles O40: the silent voice writes its contribution alone, and under SILENT it is the voice of
every percussion channel. -/
theorem percVoiceIsSilent : Obligations.PercVoiceIsSilent := by
  intro c s hc
  have hc := isMelodic_of_le hc
  have hstep {s t : State} (hmode : s.cfg.percMode = .silent) (h : stepFrame s = .ok t) :
      t.ch[c] = s.ch[c] ∧ t.contrib[c] = Contribution.silence := by
    have := (stepFrame_voiceStep h c).symm.trans (voiceStep_silent hc hmode)
    simpa [and_comm] using this
  refine ⟨?_, fun hmode => ⟨fun t h => hstep hmode (stepFrame_of_exec h), fun n t h => ?_⟩⟩
  · rw [exec_percVoiceSilent hc, percVoiceSilent, putVoice_same_ch]
    rfl
  · obtain ⟨-, fs, u, hu, rfl⟩ := execProduce_cases h
    obtain ⟨⟨-, hch⟩, -⟩ := produceFrames_invariant
      (P := fun v => v.cfg.percMode = .silent ∧ v.ch[c] = s.ch[c]) (Q := fun _ => True)
      (fun v w hv hw => ⟨⟨by rw [(stepFrame_frame hw).1.cfg, hv.1],
        (hstep hv.1 hw).1.trans hv.2⟩, trivial⟩) ⟨hmode, rfl⟩ hu
    exact hch

end Sys2Proof.Claims
end

section
/-! SUPPORT. The requests that make up a STEP (R243, R244), and a note's course from STEP to STEP
(R255, R264). -/

namespace Sys2Proof.Machine

open Sys2Proof.Claims

/-! ### A STEP request by request -/

section
variable {s t u : State} {i : Instr} {rest : List Request} {k : Nat}

theorem runSteps_call_next (h : exec i (s.dequeue rest) = .next t) :
    runSteps (k + 1) (s.dequeue (.call i :: rest)) = runSteps k t := by
  have hstep : step (s.dequeue (.call i :: rest)) = exec i (s.dequeue rest) := rfl
  rw [runSteps, hstep, h]

theorem runSteps_call_fault {r : Fault} (h : exec i (s.dequeue rest) = .fault r) :
    runSteps (k + 1) (s.dequeue (.call i :: rest)) = .fault r := by
  have hstep : step (s.dequeue (.call i :: rest)) = exec i (s.dequeue rest) := rfl
  rw [runSteps, hstep, h]

/-- A voice does not see the queue. -/
theorem voice_dequeue (c : Fin 16) (s : State) (rest : List Request) :
    voice c (s.dequeue rest) = (voice c s).map (State.dequeue rest) := by
  have hstep : voiceStep c (s.dequeue rest) = voiceStep c s := rfl
  rw [voice_eq, voice_eq, hstep]
  cases voiceStep c s <;> rfl

/-- The request for a channel's voice runs the voice that STEP runs (R244). -/
theorem exec_voiceCall (c : Fin 16) (s : State) :
    exec (voiceCall s.cfg.percMode c) s = outcomeOf (voice c s) := by
  cases hc : isMelodic c with
  | true =>
    unfold voiceCall
    rw [if_pos hc, exec_melodicVoice hc]
  | false =>
    unfold voiceCall
    rw [if_neg (by simp [hc])]
    cases hmode : s.cfg.percMode with
    | stream => exact exec_percVoiceStream hc
    | silent =>
      have hvoice : voice c s = .ok (percVoiceSilent c s) := by
        rw [voice, if_neg (by simp [hc]), percVoice_of_silent hmode]
      rw [hvoice]
      exact exec_percVoiceSilent hc

/-- The requests for the voices of these channels, in order. -/
def voiceCalls (mode : PercMode) (cs : List (Fin 16)) : List Request :=
  cs.map fun c => .call (voiceCall mode c)

/-- The requests for some voices, run one at a time, do what the voices do in one STEP. -/
theorem runSteps_voiceCalls (cs : List (Fin 16)) (s : State) (rest : List Request) :
    (∀ u, runVoices cs s = .ok u →
      runSteps (cs.length + k) (s.dequeue (voiceCalls s.cfg.percMode cs ++ rest)) =
        runSteps k (u.dequeue rest)) ∧
    (∀ r, runVoices cs s = .error r →
      runSteps (cs.length + k) (s.dequeue (voiceCalls s.cfg.percMode cs ++ rest)) =
        .fault r) := by
  induction cs generalizing s with
  | nil =>
    refine ⟨fun u h => ?_, fun r h => by cases h⟩
    cases h
    rw [List.length_nil, Nat.zero_add]
    rfl
  | cons c cs ih =>
    have hcall := exec_voiceCall c (s.dequeue (voiceCalls s.cfg.percMode cs ++ rest))
    rw [voice_dequeue] at hcall
    have hsucc : (c :: cs).length + k = cs.length + k + 1 := by rw [List.length_cons]; omega
    rw [hsucc]
    cases hv : voice c s with
    | error r =>
      rw [hv] at hcall
      refine ⟨fun u h => by simp [runVoices, hv] at h, fun r' h => ?_⟩
      exact runSteps_call_fault hcall
    | ok v =>
      rw [hv] at hcall
      obtain ⟨out, ch, -, rfl⟩ := voice_ok hv
      have hrun : runVoices (c :: cs) s = runVoices cs (s.putVoice c out ch) := by
        simp only [runVoices, hv]
      obtain ⟨hok, herr⟩ := ih (s.putVoice c out ch)
      rw [hrun]
      exact ⟨fun u h => (runSteps_call_next hcall).trans (hok u h),
        fun r h => (runSteps_call_next hcall).trans (herr r h)⟩

theorem stepProgram_append (mode : PercMode) (rest : List Request) :
    stepProgram mode ++ rest = voiceCalls mode channels ++ (.call .mixClamp :: rest) := by
  simp [stepProgram, voiceCalls]

end

/-! ### The course of a note -/

section
variable {s t : State} {c : Fin 16} {n : Note}

/-- A voice of a channel with a note either finds it not started and keeps the registers, or keeps
the note's index up to NOTE_END. -/
theorem voiceStep_note {out : Contribution} {ch : Channel}
    (hplays : c.val < 8 ∨ s.cfg.percMode = .stream)
    (hn : currentNote s.song.inst[c] s.ch[c].noteIndex = some n)
    (h : voiceStep c s = .ok (out, ch)) :
    (started s.p n = false ∧ ch = s.ch[c]) ∨
      ∃ ch' : Channel, ch'.noteIndex = s.ch[c].noteIndex ∧ ch = ch'.endIf s.p n := by
  have hsame {m : Note} (hm : currentNote s.song.inst[c] s.ch[c].noteIndex = some m) : m = n :=
    Option.some.inj (hm.symm.trans hn)
  cases hc : isMelodic c with
  | true =>
    rw [voiceStep_melodic hc] at h
    obtain ⟨-, rfl, hidle⟩ | ⟨m, hm, -, -, -, rfl⟩ | ⟨m, x, hm, -, -, -, -, rfl⟩ :=
      melodicStep_cases h
    · exact .inl ⟨hidle n hn, rfl⟩
    · exact .inr ⟨s.ch[c], rfl, by rw [hsame hm]⟩
    · exact .inr ⟨s.ch[c].tone n, rfl, by rw [hsame hm]⟩
  | false =>
    have hmode := hplays.resolve_left (Nat.not_lt.mpr (isMelodic_eq_false_iff.mp hc))
    rw [voiceStep_stream hc hmode] at h
    obtain ⟨-, rfl, hidle⟩ | ⟨m, hm, -, -, -, rfl⟩ | ⟨m, x, hm, -, -, -, rfl⟩ :=
      percStep_cases (Except.ok.inj h)
    · exact .inl ⟨hidle n hn, rfl⟩
    · exact .inr ⟨s.ch[c], rfl, by rw [hsame hm]⟩
    · exact .inr ⟨{ s.ch[c] with samplesPlayed := s.ch[c].samplesPlayed + 1 }, rfl,
        by rw [hsame hm]⟩

section
variable (hplays : c.val < 8 ∨ s.cfg.percMode = .stream)
  (hn : currentNote s.song.inst[c] s.ch[c].noteIndex = some n) (h : stepFrame s = .ok t)
include hplays hn h

/-- A note goes on through every STEP before its end (R255). -/
theorem stepFrame_keeps_note (hp : s.p < n.endSample) :
    t.ch[c].noteIndex = s.ch[c].noteIndex := by
  obtain ⟨-, hch⟩ | ⟨ch', hindex, hch⟩ := voiceStep_note hplays hn (stepFrame_voiceStep h c)
  · rw [hch]
  · rw [hch, Channel.endIf_going ch' hp, hindex]

/-- A note ends in the first STEP at its end or behind it (R255). -/
theorem stepFrame_ends_note (hwindow : n.startSample ≤ n.endSample) (hp : n.endSample ≤ s.p) :
    t.ch[c] = ⟨s.ch[c].noteIndex + 1, 0#64, 0⟩ := by
  obtain ⟨hstart, -⟩ | ⟨ch', hindex, hch⟩ := voiceStep_note hplays hn (stepFrame_voiceStep h c)
  · exact absurd (hwindow.trans hp) (of_decide_eq_false hstart)
  · rw [hch, Channel.endIf_ended ch' hp, ← hindex]
    rfl

end

theorem framesOn_succ {m : Nat} (h : framesOn (m + 1) s = .ok t) :
    ∃ u, stepFrame s = .ok u ∧ framesOn m u = .ok t := by
  unfold framesOn at h
  split at h
  next u hu => exact ⟨u, hu, h⟩
  next => cases h

/-- A note that is current at `s.p` stays current through the STEP at `max s.p endSample`, and that
STEP ends it (R264). -/
theorem framesOn_note {m : Nat} (hwindow : n.startSample ≤ n.endSample)
    (hplays : c.val < 8 ∨ s.cfg.percMode = .stream)
    (hn : currentNote s.song.inst[c] s.ch[c].noteIndex = some n) (h : framesOn m s = .ok t) :
    (m ≤ max s.p n.endSample - s.p → t.ch[c].noteIndex = s.ch[c].noteIndex) ∧
    (m = max s.p n.endSample - s.p + 1 → t.ch[c] = ⟨s.ch[c].noteIndex + 1, 0#64, 0⟩) := by
  induction m generalizing s with
  | zero => cases h; exact ⟨fun _ => rfl, fun h0 => by omega⟩
  | succ m ih =>
    obtain ⟨u, hu, hrest⟩ := framesOn_succ h
    obtain hp | hp := Nat.lt_or_ge s.p n.endSample
    · obtain ⟨hsame, hpu⟩ := stepFrame_frame hu
      have hindex := stepFrame_keeps_note hplays hn hu hp
      have hlater := ih (s := u) (by rwa [hsame.cfg]) (by rwa [hsame.song, hindex]) hrest
      rw [hindex, hpu] at hlater
      exact ⟨fun hm => hlater.1 (by omega), fun hm => hlater.2 (by omega)⟩
    · refine ⟨fun hm => by omega, fun hm => ?_⟩
      obtain rfl : m = 0 := by omega
      cases hrest
      exact stepFrame_ends_note hplays hn hu hwindow hp

end

end Sys2Proof.Machine
end

section
/-! SUPPORT. What the samples can change (R246, R250, R253–R256): every operation but CONSTRUCT on a
state with other banks, side by side with the same operation on the state itself. -/

namespace Sys2Proof.Machine

/-! ### Registers -/

/-- Whether a melodic voice faults, and the registers it leaves, do not depend on the bank. -/
theorem melodicStep_registers (cfg : Cfg) (wave wave' : WaveBank) (inst : Instrument) (p : Nat)
    (ch : Channel) :
    (melodicStep cfg wave inst p ch).map Prod.snd =
      (melodicStep cfg wave' inst p ch).map Prod.snd := by
  unfold melodicStep
  cases currentNote inst ch.noteIndex with
  | none => rfl
  | some n =>
    cases hs : started p n with
    | false => simp only [hs, Bool.false_eq_true, if_false, Except.map]
    | true =>
      cases hg : gateOpen inst ch with
      | false => simp only [Bool.false_eq_true, if_false, Except.map]
      | true =>
        cases hpos : fIsFinite (readPosition cfg n.octave ch.wavetableOffset) with
        | false => simp only [melodicSample, hpos, Bool.false_eq_true, if_false]
        | true => simp only [hs, melodicSample, hpos, if_true, Except.map]

/-- The registers a streaming voice leaves depend on the length of its sequence alone. -/
theorem percStep_registers (cfg : Cfg) {drum drum' : List (List F64)} {inst : Instrument}
    (hlen : (drumAt drum inst.instrumentIndex).length =
      (drumAt drum' inst.instrumentIndex).length) (p : Nat) (ch : Channel) :
    (percStep cfg drum inst p ch).2 = (percStep cfg drum' inst p ch).2 := by
  unfold percStep
  cases currentNote inst ch.noteIndex with
  | none => rfl
  | some n =>
    cases hs : started p n with
    | false => simp only [hs, Bool.false_eq_true, if_false]
    | true =>
      obtain hlt | hge := Nat.lt_or_ge ch.samplesPlayed (drumAt drum inst.instrumentIndex).length
      · simp only [hs, if_true, List.getElem?_eq_getElem hlt,
          List.getElem?_eq_getElem (hlen ▸ hlt)]
      · simp only [List.getElem?_eq_none hge, List.getElem?_eq_none (hlen ▸ hge)]

/-- Banks of the same lengths give sequences of the same length at every index. -/
theorem drumAt_length {drum drum' : List (List F64)}
    (h : drum.map List.length = drum'.map List.length) (k : Byte) :
    (drumAt drum k).length = (drumAt drum' k).length := by
  have hk : drum[k.toNat]?.map List.length = drum'[k.toNat]?.map List.length := by
    rw [← List.getElem?_map, h, List.getElem?_map]
  rw [drumAt, drumAt, ← Option.getD_map List.length, ← Option.getD_map List.length, hk]

section
variable (wave : WaveBank) (drum : List (List F64))

/-- `u` is `s` with other samples of the same lengths, but for what the samples can change: the
contributions, the frame and the answer. -/
def SameButSamples (s u : State) : Prop :=
  drum.map List.length = s.drum.map List.length ∧ ∃ contrib frame result, u = { s with
    wave := wave, drum := drum, contrib := contrib, frame := frame, result := result }

/-- Two runs complete in such states, or fault alike. -/
inductive AlikeRuns : Except Fault State → Except Fault State → Prop
  | ok {s u : State} (h : SameButSamples wave drum s u) : AlikeRuns (.ok s) (.ok u)
  | error (r : Fault) : AlikeRuns (.error r) (.error r)

/-- Two operations complete in such states, or stop alike. -/
inductive AlikeOutcomes :
    Host.Outcome State Fault Refusal → Host.Outcome State Fault Refusal → Prop
  | next {s u : State} (h : SameButSamples wave drum s u) : AlikeOutcomes (.next s) (.next u)
  | fault (r : Fault) : AlikeOutcomes (.fault r) (.fault r)
  | refused (r : Refusal) : AlikeOutcomes (.refused r) (.refused r)

variable {wave drum} {s u : State}

section
variable {o : Host.Outcome State Fault Refusal}

theorem AlikeOutcomes.of_next (h : AlikeOutcomes wave drum (.next s) o) :
    ∃ u, o = .next u ∧ SameButSamples wave drum s u := by
  cases h with
  | next h => exact ⟨_, rfl, h⟩

theorem AlikeOutcomes.of_fault {r : Fault} (h : AlikeOutcomes wave drum (.fault r) o) :
    o = .fault r := by
  cases h
  rfl

theorem AlikeOutcomes.of_refused {r : Refusal} (h : AlikeOutcomes wave drum (.refused r) o) :
    o = .refused r := by
  cases h
  rfl

end

theorem AlikeRuns.outcomeOf {a b : Except Fault State} (h : AlikeRuns wave drum a b) :
    AlikeOutcomes wave drum (outcomeOf a) (outcomeOf b) := by
  cases h with
  | ok h => exact .next h
  | error r => exact .fault r

variable (h : SameButSamples wave drum s u)
include h

theorem voiceStep_registers (c : Fin 16) :
    (voiceStep c s).map Prod.snd = (voiceStep c u).map Prod.snd := by
  have hcfg : u.cfg = s.cfg := by obtain ⟨-, _, _, _, rfl⟩ := h; rfl
  cases hc : isMelodic c with
  | true =>
    rw [voiceStep_melodic hc, voiceStep_melodic hc]
    obtain ⟨-, _, _, _, rfl⟩ := h
    exact melodicStep_registers _ _ _ _ _ _
  | false =>
    cases hmode : s.cfg.percMode with
    | stream =>
      rw [voiceStep_stream hc hmode, voiceStep_stream hc (hcfg ▸ hmode)]
      obtain ⟨hlen, _, _, _, rfl⟩ := h
      exact congrArg Except.ok (percStep_registers _ (drumAt_length hlen _).symm _ _)
    | silent =>
      rw [voiceStep_silent hc hmode, voiceStep_silent hc (hcfg ▸ hmode)]
      obtain ⟨-, _, _, _, rfl⟩ := h
      rfl

theorem putVoice_sameButSamples (c : Fin 16) (out out' : Contribution) (ch : Channel) :
    SameButSamples wave drum (s.putVoice c out ch) (u.putVoice c out' ch) := by
  obtain ⟨hlen, contrib, frame, result, rfl⟩ := h
  exact ⟨hlen, _, _, _, rfl⟩

theorem voice_alike (c : Fin 16) : AlikeRuns wave drum (voice c s) (voice c u) := by
  have hregs := voiceStep_registers h c
  rw [voice_eq, voice_eq]
  cases hs : voiceStep c s with
  | error r =>
    cases hu : voiceStep c u with
    | error r' => exact .error r
    | ok y => rw [hs, hu] at hregs; cases hregs
  | ok x =>
    cases hu : voiceStep c u with
    | error r => rw [hs, hu] at hregs; cases hregs
    | ok y =>
      rw [hs, hu] at hregs
      have hch : x.2 = y.2 := Except.ok.inj hregs
      simp only [Except.map, ← hch]
      exact .ok (putVoice_sameButSamples h c x.1 y.1 x.2)

theorem runVoices_alike (cs : List (Fin 16)) :
    AlikeRuns wave drum (runVoices cs s) (runVoices cs u) := by
  induction cs generalizing s u with
  | nil => exact .ok h
  | cons c cs ih =>
    have hvoice := voice_alike h c
    simp only [runVoices]
    generalize voice c s = a, voice c u = b at hvoice ⊢
    cases hvoice with
    | error r => exact .error r
    | ok h' => exact ih h'

theorem mixClamp_sameButSamples : SameButSamples wave drum (mixClamp s) (mixClamp u) := by
  obtain ⟨hlen, contrib, frame, result, rfl⟩ := h
  exact ⟨hlen, _, _, _, rfl⟩

theorem stepFrame_alike : AlikeRuns wave drum (stepFrame s) (stepFrame u) := by
  have hvoices := runVoices_alike h channels
  simp only [stepFrame]
  generalize runVoices channels s = a, runVoices channels u = b at hvoices ⊢
  cases hvoices with
  | error r => exact .error r
  | ok h' =>
    obtain ⟨hlen, contrib, frame, result, e⟩ := mixClamp_sameButSamples h'
    exact .ok ⟨hlen, contrib, frame, result, congrArg State.advance e⟩

theorem produceFrames_alike (n : Nat) :
    AlikeRuns wave drum ((produceFrames n s).map Prod.snd) ((produceFrames n u).map Prod.snd) := by
  induction n generalizing s u with
  | zero => exact .ok h
  | succ n ih =>
    have hstep := stepFrame_alike h
    simp only [produceFrames]
    generalize stepFrame s = a, stepFrame u = b at hstep ⊢
    cases hstep with
    | error r => exact .error r
    | @ok s' u' h' =>
      have hrest := ih h'
      dsimp only
      generalize produceFrames n s' = x, produceFrames n u' = y at hrest ⊢
      cases x <;> cases y <;> exact hrest

theorem execProduce_alike (n : BitVec 32) :
    AlikeOutcomes wave drum (execProduce n s) (execProduce n u) := by
  have hframes := produceFrames_alike h n.toNat
  have hmode : u.mode = s.mode := by obtain ⟨-, _, _, _, rfl⟩ := h; rfl
  simp only [execProduce, hmode]
  cases s.mode with
  | unconstructed => exact .refused _
  | constructed =>
    cases hs : produceFrames n.toNat s with
    | error r =>
      cases hu : produceFrames n.toNat u with
      | error r' => exact .fault r
      | ok y => rw [hs, hu] at hframes; cases hframes
    | ok x =>
      cases hu : produceFrames n.toNat u with
      | error r => rw [hs, hu] at hframes; cases hframes
      | ok y =>
        rw [hs, hu] at hframes
        cases hframes with
        | ok h' =>
          obtain ⟨hlen, contrib, frame, result, e⟩ := h'
          exact .next ⟨hlen, contrib, frame, _, congrArg (State.putResult (.frames y.1)) e⟩

theorem execSongHeader_alike (r : SongHeaderRec) :
    AlikeOutcomes wave drum (execSongHeader r s) (execSongHeader r u) := by
  obtain ⟨hlen, contrib, frame, result, rfl⟩ := h
  simp only [execSongHeader]
  cases songHeaderInto s.asm.cfg r s.asm.song with
  | ok song => exact .next ⟨hlen, _, _, _, rfl⟩
  | error e => exact .next ⟨hlen, _, _, _, rfl⟩

/-- A request for a voice, which a channel of the other kind refuses. -/
theorem execVoice_alike {i : Instr} {c : Fin 16} (hi : IsVoiceOf c i) :
    AlikeOutcomes wave drum (exec i s) (exec i u) := by
  cases hc : isMelodic c with
  | true =>
    obtain rfl | rfl | rfl := hi
    · rw [exec_melodicVoice hc, exec_melodicVoice hc]
      exact (voice_alike h c).outcomeOf
    · simp only [exec, execPercVoiceStream, hc, if_true]
      exact .refused _
    · simp only [exec, execPercVoiceSilent, hc, if_true]
      exact .refused _
  | false =>
    obtain rfl | rfl | rfl := hi
    · simp only [exec, execMelodicVoice, hc, Bool.false_eq_true, if_false]
      exact .refused _
    · rw [exec_percVoiceStream hc, exec_percVoiceStream hc]
      exact (voice_alike h c).outcomeOf
    · rw [exec_percVoiceSilent hc, exec_percVoiceSilent hc]
      obtain ⟨hlen, contrib, frame, result, rfl⟩ := h
      exact .next ⟨hlen, _, _, _, rfl⟩

/-- Every operation but CONSTRUCT does the same with other samples. -/
theorem exec_alike {i : Instr} (hi : ∀ cfg a b d, i ≠ .construct cfg a b d) :
    AlikeOutcomes wave drum (exec i s) (exec i u) := by
  cases i with
  | construct cfg a b d => exact absurd rfl (hi cfg a b d)
  | songHeader r => exact execSongHeader_alike h r
  | produce n => exact execProduce_alike h n
  | step => exact (stepFrame_alike h).outcomeOf
  | melodicVoice c => exact execVoice_alike h (.inl rfl)
  | percVoiceStream c => exact execVoice_alike h (.inr (.inl rfl))
  | percVoiceSilent c => exact execVoice_alike h (.inr (.inr rfl))
  | mixClamp => exact .next (mixClamp_sameButSamples h)
  | instrumentHeader | note | waveEntry | drumSample | readU8 | readU16le | readU32le | readS8
  | readS16be | skip | readWaveform =>
    obtain ⟨hlen, contrib, frame, result, rfl⟩ := h
    exact .next ⟨hlen, contrib, frame, result, rfl⟩

end

end Sys2Proof.Machine
end

section
/-! The obligations of 43_playback_engine on the sequencer (R243, R244, R255, R264), and on what the
samples can change. -/

namespace Sys2Proof.Claims

open Sys2Proof.Machine

/-- Settles O33: each request of the program runs the voice that STEP runs next. -/
theorem stepIsItsOperations : Obligations.StepIsItsOperations := by
  have hvoices (s : State) := runSteps_voiceCalls (k := 1) channels s (.call .mixClamp :: s.pending)
  simp only [← stepProgram_append] at hvoices
  refine ⟨fun s t h => ?_, fun s r h => (hvoices s).2 r ?_⟩
  · obtain ⟨u, hu, rfl⟩ := stepFrame_cases (stepFrame_of_exec h)
    refine ⟨mixClamp (u.dequeue s.pending), (hvoices s).1 u hu, ?_⟩
    have hqueue : u.dequeue s.pending = u := by rw [← (runVoices_frame hu).1.pending]; rfl
    rw [hqueue]
    rfl
  · have hstep := stepFrame_error_of_exec h
    unfold stepFrame at hstep
    split at hstep
    next => cases hstep
    next r' hr => rw [hr, Except.error.inj hstep]

/-- Settles O44: by induction on the STEPs, each of which keeps the note or ends it. -/
theorem notesArePlayedInSequence : Obligations.NotesArePlayedInSequence := by
  intro s t c n m hinv hplays hlt hn h
  exact framesOn_note (hinv.windows c n (List.mem_of_getElem? hn)) hplays
    (by rwa [currentNote, if_pos hlt]) h

/-- Settles O59: whether a voice faults, and the registers it leaves, do not depend on the
samples. -/
theorem samplesNeverSteerTheSequencer : Obligations.SamplesNeverSteerTheSequencer := by
  intro i s wave drum hi hlen
  have halike := exec_alike (u := { s with wave := wave, drum := drum })
    ⟨hlen, s.contrib, s.frame, s.result, rfl⟩ hi
  refine ⟨fun t ht => ?_, fun r hr => (hr ▸ halike).of_fault, fun r hr => (hr ▸ halike).of_refused⟩
  obtain ⟨u, hu, -, contrib, frame, result, rfl⟩ := (ht ▸ halike).of_next
  exact ⟨_, hu, rfl⟩

end Sys2Proof.Claims
end

section
/-! SUPPORT. Bounds on binary64 results: a rounding never passes a binary64 bound of the exact
value (R20). -/

namespace Sys2Proof.Machine

open Sys2Proof.Claims

/-! ### Values that are binary64 -/

/-- `b` is the value of some finite binary64. -/
def IsBinary64 (b : ℚ) : Prop := ∃ y : F64, fIsFinite y = true ∧ fValue y = b

theorem isBinary64_abs {x : F64} (hx : fIsFinite x = true) : IsBinary64 |fValue x| := by
  obtain h | h := abs_choice (fValue x)
  · exact ⟨x, hx, h.symm⟩
  · exact ⟨fneg x, (fIsFinite_fneg x).trans hx, (fValue_fneg x).trans h.symm⟩

/-- An integer of at most 53 bits, scaled by a power of two. -/
theorem isBinary64_mul_two_pow {q k : Nat} (hq : q ≤ 2 ^ 53) (hk : k < 971) :
    IsBinary64 (q * 2 ^ k) := by
  obtain ⟨m, hm⟩ := exists_magValue_eq 52 (k + 1074) q hq
  have hlt : m < 2047 * 2 ^ 52 := lt_top_of_magValue (s := 2045) hm hq (by omega)
  have hm63 : m < 2 ^ 63 := by omega
  refine ⟨ofMag 63 false m, (fIsFinite_iff _).mpr (by rwa [magBits_ofMag hm63]), ?_⟩
  rw [fValue_eq, bitValue_ofMag 52 1074 hm63, hm, pow_add, ← mul_assoc, signed,
    if_neg Bool.false_ne_true, Nat.cast_mul, Nat.cast_mul, Nat.cast_pow, Nat.cast_pow,
    Nat.cast_ofNat, mul_div_cancel_right₀ _ (by positivity)]

/-- What is as near to `x` as both of the bounds `±b` lies between them, where `x` does. -/
theorem abs_le_of_as_near {v x b : ℚ} (hx : |x| ≤ b) (hup : |v - x| ≤ |b - x|)
    (hdown : |v - x| ≤ |-b - x|) : |v| ≤ b := by
  obtain ⟨hlo, hhi⟩ := abs_le.mp hx
  rw [abs_of_nonneg (a := b - x) (by linarith)] at hup
  rw [abs_of_nonpos (a := -b - x) (by linarith)] at hdown
  obtain ⟨-, hup⟩ := abs_le.mp hup
  obtain ⟨hdown, -⟩ := abs_le.mp hdown
  exact abs_le.mpr ⟨by linarith, by linarith⟩

theorem abs_fValue_le_of_roundedTo {v : F64} {x b : ℚ} (hv : RoundedTo v x) (hb : IsBinary64 b)
    (hx : |x| ≤ b) : |fValue v| ≤ b := by
  obtain ⟨y, hy, rfl⟩ := hb
  have hdown := (hv (fneg y) ((fIsFinite_fneg y).trans hy)).1
  rw [fValue_fneg] at hdown
  exact abs_le_of_as_near hx (hv y hy).1 hdown

/-! ### Finite values of bounded size -/

/-- A finite binary64 of magnitude at most `B`. -/
def AbsAtMost (B : ℚ) (x : F64) : Prop := fIsFinite x = true ∧ |fValue x| ≤ B

theorem AbsAtMost.mono {A B : ℚ} {x : F64} (h : AbsAtMost A x) (hAB : A ≤ B) : AbsAtMost B x :=
  ⟨h.1, h.2.trans hAB⟩

@[simp] theorem fValue_zero : fValue 0#64 = 0 := by decide +kernel

theorem absAtMost_zero {B : ℚ} (hB : 0 ≤ B) : AbsAtMost B 0#64 :=
  ⟨by decide, by rwa [fValue_zero, abs_zero]⟩

theorem fWithin_iff {k : Nat} {x : F64} : fWithin k x ↔ AbsAtMost (2 ^ k) x := by
  rw [fWithin, AbsAtMost, abs_fValue, div_le_iff₀ (by positivity), ← pow_add]
  norm_cast

/-- Far below the bound where RN64 overflows. -/
theorem two_pow_1000_lt_overflow : (2 : ℚ) ^ 1000 < 2 ^ 1024 - 2 ^ 970 := by
  rw [lt_sub_iff_add_lt]
  calc (2 : ℚ) ^ 1000 + 2 ^ 970 < 2 ^ 1000 + 2 ^ 1000 := by gcongr <;> norm_num
    _ = 2 ^ 1001 := by rw [← mul_two, ← pow_succ]
    _ < 2 ^ 1024 := by gcongr <;> norm_num

section
variable {A B : ℚ} {a b : F64}

theorem absAtMost_fadd (ha : AbsAtMost A a) (hb : AbsAtMost B b) (hrep : IsBinary64 (A + B))
    (hlt : A + B ≤ 2 ^ 1000) : AbsAtMost (A + B) (fadd a b) := by
  have hsum : |fValue a + fValue b| ≤ A + B := (abs_add_le _ _).trans (add_le_add ha.2 hb.2)
  have hfin := fadd_finite ha.1 hb.1 ((hsum.trans hlt).trans_lt two_pow_1000_lt_overflow)
  exact ⟨hfin, abs_fValue_le_of_roundedTo (fadd_roundedTo ha.1 hb.1 hfin) hrep hsum⟩

theorem absAtMost_fmul (ha : AbsAtMost A a) (hb : AbsAtMost B b) (hA : 0 ≤ A)
    (hrep : IsBinary64 (A * B)) (hlt : A * B ≤ 2 ^ 1000) : AbsAtMost (A * B) (fmul a b) := by
  have hprod : |fValue a * fValue b| ≤ A * B := by
    rw [abs_mul]
    exact mul_le_mul ha.2 hb.2 (abs_nonneg _) hA
  have hfin : fIsFinite (fmul a b) = true := by
    rw [fmul_of_finite ha.1 hb.1, rn64_finite_iff_lt _ (by positivity)]
    refine lt_of_eq_of_lt ?_ ((hprod.trans hlt).trans_lt two_pow_1000_lt_overflow)
    rw [abs_mul, abs_fValue, abs_fValue, div_mul_div_comm, ← pow_add, Nat.cast_mul,
      Nat.cast_pow, Nat.cast_ofNat]
  exact ⟨hfin, abs_fValue_le_of_roundedTo (fmul_roundedTo ha.1 hb.1 hfin) hrep hprod⟩

theorem absAtMost_fdiv (ha : AbsAtMost A a) (hb : fIsFinite b = true) (hB : 0 < B)
    (hbB : B ≤ |fValue b|) (hrep : IsBinary64 (A / B)) (hlt : A / B ≤ 2 ^ 1000) :
    AbsAtMost (A / B) (fdiv a b) := by
  have hquot : |fValue a / fValue b| ≤ A / B := by
    rw [abs_div]
    exact div_le_div₀ ((abs_nonneg _).trans ha.2) ha.2 hB hbB
  have h0 : fIsZero b = false := fIsZero_eq_false (abs_pos.mp (hB.trans_le hbB))
  have hfin : fIsFinite (fdiv a b) = true := by
    rw [fdiv_of_finite ha.1 hb h0, rn64_finite_iff_lt _ (fMag_pos h0)]
    refine lt_of_eq_of_lt ?_ ((hquot.trans hlt).trans_lt two_pow_1000_lt_overflow)
    rw [abs_div, abs_fValue, abs_fValue, div_div_div_cancel_right₀ (by positivity)]
  exact ⟨hfin, abs_fValue_le_of_roundedTo (fdiv_roundedTo ha.1 hb h0 hfin) hrep hquot⟩

theorem absAtMost_ffloor {N : Nat} (ha : AbsAtMost N a) : AbsAtMost N (ffloor a) := by
  obtain ⟨hfin, hval⟩ := ffloor_exact ha.1
  obtain ⟨hlo, hhi⟩ := abs_le.mp ha.2
  refine ⟨hfin, ?_⟩
  rw [hval, abs_le]
  refine ⟨?_, (Int.floor_le _).trans hhi⟩
  have : (-N : Int) ≤ ⌊fValue a⌋ := Int.le_floor.mpr (by push_cast; exact hlo)
  exact_mod_cast this

end

end Sys2Proof.Machine
end

section
/-! SUPPORT. The mixer (R258–R260): the order and the sign of its sums, the limiter, and frames in
range. -/

namespace Sys2Proof.Machine

open Sys2Proof.Claims

/-! ### The order of the sum -/

theorem channels_eq_finRange : channels = List.finRange 16 := by decide

theorem toList_eq_map_channels (contrib : Vector Contribution 16) :
    contrib.toList = channels.map fun c => contrib[c] := by
  rw [channels_eq_finRange]
  refine List.ext_getElem (by simp) fun i _ hi => ?_
  simp

theorem mixLane_eq (lane : Contribution → F64) (contrib : Vector Contribution 16) :
    mixLane lane contrib = (contrib.toList.map lane).foldl fadd 0#64 := by
  rw [toList_eq_map_channels, List.map_map, List.foldl_map]
  rfl

/-! ### The sign of the sum -/

theorem roundMag_ne_zero {num : Nat} (h : num ≠ 0) : roundMag 52 1074 2047 num (2 ^ 1074) ≠ 0 := by
  intro h0
  have hnear := roundMag_nearest (frac := 52) (unit := 1074) (top := 2047) (num := num)
    (den := 2 ^ 1074) (by norm_num) (by positivity) (by rw [h0]; norm_num) 1
  have hone : magValue 52 1 = 1 := by decide
  have hquot : (num : ℚ) / (2 ^ 1074 : Nat) * 2 ^ 1074 = num := by
    rw [Nat.cast_pow, Nat.cast_ofNat, div_mul_cancel₀ _ (by positivity)]
  have hnum : (1 : ℚ) ≤ num := by exact_mod_cast Nat.one_le_iff_ne_zero.mpr h
  obtain ⟨hle, -⟩ := hnear
  rw [h0, hquot, hone, magValue_zero, Nat.cast_zero, zero_sub, abs_neg, abs_of_pos (by linarith),
    Nat.cast_one, abs_of_nonpos (by linarith)] at hle
  linarith

/-- A value with a zero magnitude and a sign bit is −0.0. -/
theorem eq_negZero {x : F64} (hneg : fNeg x = true) (hmag : fMag x = 0) :
    x = 0x8000000000000000#64 := by
  have hbits : magBits x = 0 := by
    rw [fMag_eq, ← magValue_zero 52] at hmag
    exact (magValue_strictMono 52).injective hmag
  rw [fNeg, BitVec.msb_eq_decide, decide_eq_true_iff] at hneg
  rw [magBits] at hbits
  apply BitVec.eq_of_toNat_eq
  rw [BitVec.toNat_ofNat]
  omega

/-- The quiet bit of a NaN is set. -/
theorem f64NaN_ne_negZero (op : FloatOp) (a b : F64) : f64NaN op a b ≠ 0x8000000000000000#64 := by
  intro h
  have hquiet : (f64NaN op a b).getLsbD 51 = false := by rw [h]; decide
  simp only [f64NaN] at hquiet
  rw [BitVec.getLsbD_append, if_neg (by decide), BitVec.getLsbD_append] at hquiet
  rw [if_pos (by decide)] at hquiet
  exact absurd hquiet (by decide)

/-- A sum is −0.0 only where both operands are (the sign of an exact zero sum is log 5's). -/
theorem fadd_ne_negZero {a : F64} (b : F64) (ha : a ≠ 0x8000000000000000#64) :
    fadd a b ≠ 0x8000000000000000#64 := by
  simp only [fadd]
  split
  · exact f64NaN_ne_negZero _ _ _
  split
  · split
    · exact f64NaN_ne_negZero _ _ _
    · exact ha
  split
  next hinf => rintro rfl; exact absurd hinf (by decide)
  split
  next hzero =>
    intro hsum
    have hneg : fNeg a = true ∧ fNeg b = true := by
      cases hab : fNeg a && fNeg b with
      | true => simpa using hab
      | false => rw [hab] at hsum; exact absurd hsum (by decide)
    obtain ⟨hna, hnb⟩ := hneg
    rw [fScaled, fScaled, if_pos hna, if_pos hnb] at hzero
    exact ha (eq_negZero hna (by omega))
  next hzero =>
    intro hsum
    have hmag := roundMag_ne_zero (Int.natAbs_ne_zero.mpr hzero)
    have hle := roundMag_le 52 1074 2047 (fScaled a + fScaled b).natAbs (2 ^ 1074)
    have hbits := congrArg magBits hsum
    rw [rn64, f64OfMag_eq, magBits_ofMag (by omega)] at hbits
    exact hmag (hbits.trans (by decide))

/-- Since a lane starts from +0.0, no sum on its way is −0.0. -/
theorem mixLane_ne_negZero (lane : Contribution → F64) (contrib : Vector Contribution 16) :
    mixLane lane contrib ≠ 0x8000000000000000#64 := by
  have hfold (xs : List F64) (acc : F64) (hacc : acc ≠ 0x8000000000000000#64) :
      xs.foldl fadd acc ≠ 0x8000000000000000#64 := by
    induction xs generalizing acc with
    | nil => exact hacc
    | cons x xs ih => exact ih _ (fadd_ne_negZero x hacc)
  rw [mixLane_eq]
  exact hfold _ _ (by decide)

/-! ### The limiter -/

theorem flt_iff {a b : F64} (ha : fIsFinite a = true) (hb : fIsFinite b = true) :
    flt a b = true ↔ fValue a < fValue b := by
  rw [flt, fIsNaN_of_finite ha, fIsNaN_of_finite hb, fValue, fValue,
    div_lt_div_iff_of_pos_right (by positivity), Int.cast_lt]
  simp

theorem fOne_finite : fIsFinite fOne = true := by decide

theorem fMinusOne_finite : fIsFinite fMinusOne = true := by decide

theorem fValue_fOne : fValue fOne = 1 := by decide +kernel

theorem fValue_fMinusOne : fValue fMinusOne = -1 := by decide +kernel

section
variable {x : F64} (hx : fIsFinite x = true)
include hx

theorem clamp_above (h : 1 < fValue x) : clamp x = fOne := by
  rw [clamp, if_pos ((flt_iff fOne_finite hx).mpr (by rwa [fValue_fOne]))]

theorem clamp_below (h : fValue x < -1) : clamp x = fMinusOne := by
  rw [clamp, if_neg, if_pos ((flt_iff hx fMinusOne_finite).mpr (by rwa [fValue_fMinusOne]))]
  rw [flt_iff fOne_finite hx, fValue_fOne]
  linarith

theorem clamp_between (hlo : -1 ≤ fValue x) (hhi : fValue x ≤ 1) : clamp x = x := by
  rw [clamp, if_neg, if_neg]
  · rw [flt_iff hx fMinusOne_finite, fValue_fMinusOne]
    exact not_lt.mpr hlo
  · rw [flt_iff fOne_finite hx, fValue_fOne]
    exact not_lt.mpr hhi

theorem absAtMost_clamp : AbsAtMost 1 (clamp x) := by
  obtain habove | hhi := lt_or_ge 1 (fValue x)
  · rw [clamp_above hx habove]
    exact ⟨fOne_finite, by rw [fValue_fOne, abs_one]⟩
  obtain hbelow | hlo := lt_or_ge (fValue x) (-1)
  · rw [clamp_below hx hbelow]
    exact ⟨fMinusOne_finite, by rw [fValue_fMinusOne, abs_neg, abs_one]⟩
  · rw [clamp_between hx hlo hhi]
    exact ⟨hx, abs_le.mpr ⟨hlo, hhi⟩⟩

end

theorem f32Value_one : f32Value 0x3f800000#32 = 1 := by decide +kernel

theorem f32Value_minusOne : f32Value 0xbf800000#32 = -1 := by decide +kernel

/-- RN32 keeps values in [−1, 1] there, since ±1.0 are binary32 values (R260). -/
theorem rn32_of_absAtMost_one {x : F64} (h : AbsAtMost 1 x) :
    f32IsFinite (rn32 x) = true ∧ |f32Value (rn32 x)| ≤ 1 := by
  obtain ⟨hx, habs⟩ := h
  have hfin : f32IsFinite (rn32 x) = true :=
    (rn32_finite_iff_abs hx).mpr (habs.trans_lt (by norm_num))
  have hup := (rn32_roundedTo hx hfin 0x3f800000#32 (by decide)).1
  have hdown := (rn32_roundedTo hx hfin 0xbf800000#32 (by decide)).1
  rw [f32Value_one] at hup
  rw [f32Value_minusOne] at hdown
  exact ⟨hfin, abs_le_of_as_near habs hup hdown⟩

/-! ### The sum of bounded contributions -/

/-- Sums of values of magnitude at most 2 grow by at most 2 (R258). -/
theorem absAtMost_foldl_fadd {xs : List F64} (hxs : ∀ x ∈ xs, AbsAtMost 2 x) {k : Nat} {acc : F64}
    (hacc : AbsAtMost (2 * k) acc) (hk : k + xs.length ≤ 2 ^ 10) :
    fIsFinite (xs.foldl fadd acc) = true := by
  induction xs generalizing acc k with
  | nil => exact hacc.1
  | cons x xs ih =>
    obtain ⟨hx, hxs⟩ := List.forall_mem_cons.mp hxs
    rw [List.length_cons] at hk
    have hsum : (2 * k + 2 : ℚ) = 2 * (k + 1 : Nat) := by push_cast; ring
    have hrep : IsBinary64 (2 * k + 2) := by
      have := isBinary64_mul_two_pow (q := k + 1) (k := 1) (by omega) (by norm_num)
      rwa [pow_one, mul_comm, ← hsum] at this
    have hsmall : (2 * k + 2 : ℚ) ≤ 2 ^ 1000 := by
      have : (k + 1 : Nat) ≤ (2 : ℚ) ^ 999 := by
        calc ((k + 1 : Nat) : ℚ) ≤ ((2 ^ 10 : Nat) : ℚ) := Nat.cast_le.mpr (by omega)
          _ ≤ 2 ^ 999 := by
            rw [Nat.cast_pow, Nat.cast_ofNat]
            exact pow_le_pow_right₀ one_le_two (by norm_num)
      rw [hsum, pow_succ']
      exact mul_le_mul_of_nonneg_left this zero_le_two
    have hnext := absAtMost_fadd hacc hx hrep hsmall
    rw [hsum] at hnext
    exact ih hxs hnext (by omega)

/-- A frame of two components that are finite and lie in [−1, 1] (R262). -/
def Frame.InRange (f : Frame) : Prop :=
  f32IsFinite f.left = true ∧ f32IsFinite f.right = true ∧
  |f32Value f.left| ≤ 1 ∧ |f32Value f.right| ≤ 1

theorem mixFrame_inRange {contrib : Vector Contribution 16}
    (h : ∀ c : Fin 16, AbsAtMost 2 contrib[c].left ∧ AbsAtMost 2 contrib[c].right) :
    (mixFrame contrib).InRange := by
  have hlane {lane : Contribution → F64} (hl : ∀ c : Fin 16, AbsAtMost 2 (lane contrib[c])) :
      f32IsFinite (rn32 (clamp (mixLane lane contrib))) = true ∧
        |f32Value (rn32 (clamp (mixLane lane contrib)))| ≤ 1 := by
    rw [mixLane_eq, toList_eq_map_channels, List.map_map]
    refine rn32_of_absAtMost_one (absAtMost_clamp (absAtMost_foldl_fadd (k := 0) ?_
      (absAtMost_zero (by norm_num)) (by simp [channels])))
    simpa using fun c _ => hl c
  obtain ⟨hlfin, hlabs⟩ := hlane fun c => (h c).1
  obtain ⟨hrfin, hrabs⟩ := hlane fun c => (h c).2
  exact ⟨hlfin, hrfin, hlabs, hrabs⟩

end Sys2Proof.Machine
end

section
/-! SUPPORT. When a binary64 is the nearest to a real number. -/

namespace Sys2Proof.Machine

open Sys2Proof.Claims

/-- A finite value that is positive. -/
abbrev IsPositive (v : F64) : Prop := fIsFinite v = true ∧ fNeg v = false ∧ 0 < magBits v

/-- The value of the magnitude bits before those of `v`. -/
def valueBelow (v : F64) : ℚ := magValue 52 (magBits v - 1) / 2 ^ 1074

/-- The value of the magnitude bits after those of `v`. -/
def valueAbove (v : F64) : ℚ := magValue 52 (magBits v + 1) / 2 ^ 1074

theorem fValue_of_nonneg {v : F64} (h : fNeg v = false) :
    fValue v = magValue 52 (magBits v) / 2 ^ 1074 := by
  rw [fValue_eq_signed, h, fMag_eq]
  rfl

theorem magValue_div_strictMono : StrictMono fun m : Nat => (magValue 52 m : ℚ) / 2 ^ 1074 :=
  fun _ _ h => div_lt_div_of_pos_right (Nat.cast_lt.mpr (magValue_strictMono 52 h)) (by positivity)

/-- Among nonnegative values the bits are in the order of the values. -/
theorem fValue_lt_of_magBits {v w : F64} (hv : fNeg v = false) (hw : fNeg w = false)
    (h : magBits v < magBits w) : fValue v < fValue w := by
  rw [fValue_of_nonneg hv, fValue_of_nonneg hw]
  exact magValue_div_strictMono h

section
variable {v : F64} (hv : IsPositive v)
include hv

/-- Any value is the neighbour below at most, the value itself, or the neighbour above at least. -/
theorem fValue_cases (y : F64) :
    fValue y ≤ valueBelow v ∨ fValue y = fValue v ∨ valueAbove v ≤ fValue y := by
  obtain ⟨-, hneg, hpos⟩ := hv
  cases hy : fNeg y with
  | true =>
    left
    rw [fValue_eq_signed, hy, signed, if_pos rfl, valueBelow]
    exact (neg_nonpos.mpr (by positivity)).trans (by positivity)
  | false =>
    rw [fValue_of_nonneg hy, fValue_of_nonneg hneg]
    obtain hlt | heq | hgt := Nat.lt_trichotomy (magBits y) (magBits v)
    · exact .inl (magValue_div_strictMono.monotone (Nat.le_sub_one_of_lt hlt))
    · exact .inr (.inl (by rw [heq]))
    · exact .inr (.inr (magValue_div_strictMono.monotone hgt))

theorem valueBelow_lt : valueBelow v < fValue v := by
  rw [fValue_of_nonneg hv.2.1]
  exact magValue_div_strictMono (Nat.sub_lt hv.2.2 one_pos)

theorem lt_valueAbove : fValue v < valueAbove v := by
  rw [fValue_of_nonneg hv.2.1]
  exact magValue_div_strictMono (Nat.lt_succ_self _)

/-- A positive value is the nearest to every real number between the middles to its neighbours. -/
theorem nearest_of_mids {x : ℝ} (hlo : ((valueBelow v + fValue v : ℚ) : ℝ) ≤ 2 * x)
    (hhi : 2 * x ≤ ((fValue v + valueAbove v : ℚ) : ℝ)) : Nearest v x := by
  refine ⟨hv.1, fun y _ => ?_⟩
  have hbelow : ((valueBelow v : ℚ) : ℝ) < (fValue v : ℚ) := Rat.cast_lt.mpr (valueBelow_lt hv)
  have habove : ((fValue v : ℚ) : ℝ) < (valueAbove v : ℚ) := Rat.cast_lt.mpr (lt_valueAbove hv)
  rw [Rat.cast_add] at hlo hhi
  obtain hy | hy | hy := fValue_cases hv y
  · have hy : ((fValue y : ℚ) : ℝ) ≤ (valueBelow v : ℚ) := Rat.cast_le.mpr hy
    refine le_trans ?_ (neg_le_abs _)
    exact abs_le.mpr ⟨by linarith, by linarith⟩
  · rw [hy]
  · have hy : ((valueAbove v : ℚ) : ℝ) ≤ (fValue y : ℚ) := Rat.cast_le.mpr hy
    refine le_trans ?_ (le_abs_self _)
    exact abs_le.mpr ⟨by linarith, by linarith⟩

/-- It is enough to know the number up to an error `e`. -/
theorem nearest_of_approx {x : ℝ} {q e : ℚ} (hx : |x - q| ≤ e)
    (hlo : valueBelow v + fValue v ≤ 2 * (q - e)) (hhi : 2 * (q + e) ≤ fValue v + valueAbove v) :
    Nearest v x := by
  obtain ⟨hxlo, hxhi⟩ := abs_le.mp hx
  have hlo : ((valueBelow v + fValue v : ℚ) : ℝ) ≤ 2 * (q - e) := by exact_mod_cast hlo
  have hhi : 2 * (q + e) ≤ ((fValue v + valueAbove v : ℚ) : ℝ) := by exact_mod_cast hhi
  exact nearest_of_mids hv (by linarith) (by linarith)

end

/-- A value is the nearest to itself. -/
theorem nearest_fValue {v : F64} (hv : fIsFinite v = true) : Nearest v ((fValue v : ℚ) : ℝ) := by
  refine ⟨hv, fun y _ => ?_⟩
  rw [sub_self, abs_zero]
  exact abs_nonneg _

end Sys2Proof.Machine
end

section
/-! SUPPORT. The volume gains (R248): the 254th powers of the middles to the neighbours of an entry
are compared with a power of ten. -/

namespace Sys2Proof.Machine

open Sys2Proof.Claims

/-- `10^(v/254 − 1)` (R248). -/
noncomputable def volumeGain (v : Nat) : ℝ := (10 : ℝ) ^ ((v : ℝ) / 254 - 1)

/-- The 254th power is an integer power of ten. The factor 2 is that of the middles below. -/
theorem two_mul_volumeGain_pow (v : Level) :
    (2 * volumeGain v.val) ^ 254 * 10 ^ (254 - v.val) = 2 ^ 254 := by
  have hv : v.val ≤ 254 := Nat.le_of_lt_succ v.isLt
  have hpow : volumeGain v.val ^ 254 * 10 ^ (254 - v.val) = 1 := by
    rw [volumeGain, ← Real.rpow_natCast, ← Real.rpow_natCast, ← Real.rpow_mul (by norm_num),
      ← Real.rpow_add (by norm_num), Nat.cast_sub hv]
    convert Real.rpow_zero 10 using 2
    push_cast
    ring
  rw [mul_pow, mul_assoc, hpow, mul_one]

/-- The table, entry by entry: each middle to a neighbour, to the 254th power. -/
theorem volGainTable_checked (v : Level) :
    IsPositive (volGain v) ∧
    (valueBelow (volGain v) + fValue (volGain v)) ^ 254 * 10 ^ (254 - v.val) ≤ 2 ^ 254 ∧
    2 ^ 254 ≤ (fValue (volGain v) + valueAbove (volGain v)) ^ 254 * 10 ^ (254 - v.val) ∧
    fValue (volGain v) ≤ 1 := by
  revert v
  decide +kernel

theorem volumeGain_pos (v : Nat) : 0 < volumeGain v := Real.rpow_pos_of_pos (by norm_num) _

theorem volGain_nearest (v : Level) : Nearest (volGain v) (volumeGain v.val) := by
  obtain ⟨hpos, hlo, hhi, -⟩ := volGainTable_checked v
  have hten : (0 : ℝ) < 10 ^ (254 - v.val) := by positivity
  have hgain := volumeGain_pos v.val
  have hlo : (((valueBelow (volGain v) + fValue (volGain v) : ℚ) : ℝ)) ^ 254 * 10 ^ (254 - v.val) ≤
      (2 * volumeGain v.val) ^ 254 * 10 ^ (254 - v.val) := by
    rw [two_mul_volumeGain_pow]
    exact_mod_cast hlo
  have hhi : (2 * volumeGain v.val) ^ 254 * 10 ^ (254 - v.val) ≤
      (((fValue (volGain v) + valueAbove (volGain v) : ℚ) : ℝ)) ^ 254 * 10 ^ (254 - v.val) := by
    rw [two_mul_volumeGain_pow]
    exact_mod_cast hhi
  have habove : (0 : ℝ) ≤ ((fValue (volGain v) + valueAbove (volGain v) : ℚ) : ℝ) := by
    rw [fValue_of_nonneg hpos.2.1, valueAbove]
    positivity
  exact nearest_of_mids hpos
    (le_of_pow_le_pow_left₀ (by norm_num) (by positivity) (le_of_mul_le_mul_right hlo hten))
    (le_of_pow_le_pow_left₀ (by norm_num) habove (le_of_mul_le_mul_right hhi hten))

theorem volGain_magBits_succ (v : Fin 254) :
    magBits (volGain v.castSucc) < magBits (volGain v.succ) := by
  revert v
  decide +kernel

theorem volGain_strictMono : StrictMono fun v => fValue (volGain v) := by
  refine Fin.strictMono_iff_lt_succ.mpr fun v => ?_
  obtain ⟨⟨-, hneg, -⟩, -⟩ := volGainTable_checked v.castSucc
  obtain ⟨⟨-, hneg', -⟩, -⟩ := volGainTable_checked v.succ
  exact fValue_lt_of_magBits hneg hneg' (volGain_magBits_succ v)

end Sys2Proof.Machine
end

section
/-! SUPPORT. The pan gains (R249): the table is compared with Taylor sums of cosine and sine at a
rational below the angle. -/

namespace Sys2Proof.Machine

open Sys2Proof.Claims

/-! ### Taylor sums -/

/-- The first `n` terms of the series of `cos x`. -/
def cosSum (x : ℚ) : Nat → ℚ
  | 0 => 0
  | n + 1 => cosSum x n + (-x ^ 2) ^ n / (2 * n).factorial

/-- The first `n` terms of the series of `sin x`. -/
def sinSum (x : ℚ) : Nat → ℚ
  | 0 => 0
  | n + 1 => sinSum x n + (-x ^ 2) ^ n * x / (2 * n + 1).factorial

/-- The two sums are the real and the imaginary part of the exponential sum at `x·i`. -/
theorem cosSum_add_sinSum (x : ℚ) (n : Nat) :
    ∑ m ∈ Finset.range (2 * n), ((x : ℝ) * Complex.I) ^ m / (m.factorial : ℂ) =
      ((cosSum x n : ℚ) : ℝ) + ((sinSum x n : ℚ) : ℝ) * Complex.I := by
  induction n with
  | zero => simp [cosSum, sinSum]
  | succ n ih =>
    have heven : ((x : ℝ) * Complex.I) ^ (2 * n) = (-(x : ℂ) ^ 2) ^ n := by
      rw [pow_mul, mul_pow, Complex.I_sq]
      push_cast
      ring
    rw [Nat.mul_succ, Finset.sum_range_succ, Finset.sum_range_succ, ih, pow_succ, heven, cosSum,
      sinSum]
    push_cast
    ring

section
variable {x : ℚ} (h0 : 0 ≤ x) (h1 : x ≤ 1) {n : Nat} (hn : 0 < n)
include h0 h1 hn

theorem norm_exp_sub_sums_le :
    ‖Complex.exp ((x : ℝ) * Complex.I) -
      (((cosSum x n : ℚ) : ℝ) + ((sinSum x n : ℚ) : ℝ) * Complex.I)‖ ≤
      (x : ℝ) ^ (2 * n) / (2 * n).factorial * 2 := by
  have h0 : (0 : ℝ) ≤ x := by exact_mod_cast h0
  have h1 : (x : ℝ) ≤ 1 := by exact_mod_cast h1
  have hnorm : ‖((x : ℝ) : ℂ) * Complex.I‖ = x := by
    rw [norm_mul, Complex.norm_I, mul_one, Complex.norm_real, Real.norm_of_nonneg h0]
  have hsmall : ‖((x : ℝ) : ℂ) * Complex.I‖ / (2 * n).succ ≤ 1 / 2 := by
    have hsucc : (2 : ℝ) ≤ (2 * n).succ := by exact_mod_cast (by omega : 2 ≤ (2 * n).succ)
    rw [hnorm]
    exact div_le_div₀ zero_le_one h1 two_pos hsucc
  have hbound := Complex.exp_bound' hsmall
  rwa [cosSum_add_sinSum, hnorm] at hbound

theorem abs_cos_sub_cosSum_le :
    |Real.cos x - cosSum x n| ≤ (x : ℝ) ^ (2 * n) / (2 * n).factorial * 2 := by
  have hre := (Complex.abs_re_le_norm _).trans (norm_exp_sub_sums_le h0 h1 hn)
  rwa [Complex.sub_re, Complex.exp_ofReal_mul_I_re, Complex.add_re, Complex.ofReal_re,
    Complex.re_ofReal_mul, Complex.I_re, mul_zero, add_zero] at hre

theorem abs_sin_sub_sinSum_le :
    |Real.sin x - sinSum x n| ≤ (x : ℝ) ^ (2 * n) / (2 * n).factorial * 2 := by
  have him := (Complex.abs_im_le_norm _).trans (norm_exp_sub_sums_le h0 h1 hn)
  rwa [Complex.sub_im, Complex.exp_ofReal_mul_I_im, Complex.add_im, Complex.ofReal_im,
    Complex.im_ofReal_mul, Complex.I_im, mul_one, zero_add] at him

end

/-! ### The angles of the table -/

/-- `k·π/508` (R249). -/
noncomputable def tableAngle (k : Nat) : ℝ := (k : ℝ) * Real.pi / 508

/-- A rational just below `k·π/508`: 20 decimals of π. -/
def tableAngleLow (k : Nat) : ℚ := k * (314159265358979323846 / 10 ^ 20) / 508

/-- What the rational misses, and as much again for the rest of the series. -/
def angleError (k : Nat) : ℚ := k / (254 * 10 ^ 20)

theorem abs_tableAngle_sub_low_le (k : Nat) :
    |tableAngle k - tableAngleLow k| ≤ k / (508 * 10 ^ 20) := by
  have hlo := Real.pi_gt_d20
  have hhi := Real.pi_lt_d20
  have hdiff : tableAngle k - tableAngleLow k =
      k * (Real.pi - 314159265358979323846 / 10 ^ 20) / 508 := by
    rw [tableAngle, tableAngleLow]
    push_cast
    ring
  have hpi : 0 ≤ Real.pi - 314159265358979323846 / 10 ^ 20 := by norm_num at hlo ⊢; linarith
  have hpi' : Real.pi - 314159265358979323846 / 10 ^ 20 ≤ 1 / 10 ^ 20 := by
    norm_num at hhi ⊢; linarith
  rw [hdiff, abs_of_nonneg (by positivity)]
  calc (k : ℝ) * (Real.pi - 314159265358979323846 / 10 ^ 20) / 508
      ≤ k * (1 / 10 ^ 20) / 508 := by gcongr
    _ = (k : ℝ) / (508 * 10 ^ 20) := by ring

section
variable {k : Nat} (hk : k ≤ 127)
include hk

theorem tableAngleLow_bounds : 0 ≤ tableAngleLow k ∧ tableAngleLow k ≤ 1 := by
  have hk : (k : ℚ) ≤ 127 := by exact_mod_cast hk
  have h0 : (0 : ℚ) ≤ k := Nat.cast_nonneg k
  rw [tableAngleLow]
  constructor
  · positivity
  · norm_num
    linarith

/-- Twelve terms of the series are far more than enough. -/
theorem tableAngleLow_remainder_le :
    (tableAngleLow k : ℝ) ^ (2 * 12) / (2 * 12).factorial * 2 ≤ k / (508 * 10 ^ 20) := by
  obtain ⟨h0, h1⟩ := tableAngleLow_bounds hk
  have hpow : tableAngleLow k ^ (2 * 12) ≤ tableAngleLow k := pow_le_of_le_one h0 h1 (by norm_num)
  have hrat : tableAngleLow k ^ (2 * 12) / (2 * 12).factorial * 2 ≤ k / (508 * 10 ^ 20) := by
    have hk0 : (0 : ℚ) ≤ k := Nat.cast_nonneg k
    calc tableAngleLow k ^ (2 * 12) / (2 * 12).factorial * 2
        ≤ tableAngleLow k / (2 * 12).factorial * 2 := by gcongr
      _ ≤ k / (508 * 10 ^ 20) := by
        rw [tableAngleLow]
        norm_num [Nat.factorial]
        linarith
  have hreal := (Rat.cast_le (K := ℝ)).mpr hrat
  push_cast at hreal ⊢
  exact hreal

theorem abs_cos_tableAngle_sub_le :
    |Real.cos (tableAngle k) - cosSum (tableAngleLow k) 12| ≤ angleError k := by
  obtain ⟨h0, h1⟩ := tableAngleLow_bounds hk
  have hangle := (Real.abs_cos_sub_cos_le _ _).trans (abs_tableAngle_sub_low_le k)
  have hsum := (abs_cos_sub_cosSum_le h0 h1 (n := 12) (by norm_num)).trans
    (tableAngleLow_remainder_le hk)
  refine (abs_sub_le _ (Real.cos (tableAngleLow k)) _).trans ((add_le_add hangle hsum).trans_eq ?_)
  rw [angleError]
  push_cast
  ring

theorem abs_sin_tableAngle_sub_le :
    |Real.sin (tableAngle k) - sinSum (tableAngleLow k) 12| ≤ angleError k := by
  obtain ⟨h0, h1⟩ := tableAngleLow_bounds hk
  have hangle := (Real.abs_sin_sub_sin_le _ _).trans (abs_tableAngle_sub_low_le k)
  have hsum := (abs_sin_sub_sinSum_le h0 h1 (n := 12) (by norm_num)).trans
    (tableAngleLow_remainder_le hk)
  refine (abs_sub_le _ (Real.sin (tableAngleLow k)) _).trans ((add_le_add hangle hsum).trans_eq ?_)
  rw [angleError]
  push_cast
  ring

end

/-! ### The table -/

/-- An entry of the table of cosines. -/
def panCos (k : Nat) : F64 := panCosTable.getD k 0#64

/-- Whether `v` is the nearest to every number within `e` of `q`. -/
abbrev NearestAround (v : F64) (q e : ℚ) : Prop :=
  IsPositive v ∧ valueBelow v + fValue v ≤ 2 * (q - e) ∧ 2 * (q + e) ≤ fValue v + valueAbove v

theorem NearestAround.nearest {v : F64} {q e : ℚ} (h : NearestAround v q e) {x : ℝ}
    (hx : |x - q| ≤ e) : Nearest v x :=
  nearest_of_approx h.1 hx h.2.1 h.2.2

/-- The first half of the table, against the cosine sums. -/
theorem panCos_checked_low (k : Fin 128) :
    NearestAround (panCos k) (cosSum (tableAngleLow k) 12) (angleError k) := by
  revert k
  decide +kernel

/-- The second half but for its last entry, against the sine sums of the angle from the right. -/
theorem panCos_checked_high (k : Fin 126) :
    NearestAround (panCos (254 - (k + 1))) (sinSum (tableAngleLow (k + 1)) 12)
      (angleError (k + 1)) := by
  revert k
  decide +kernel

theorem cos_tableAngle_complement {k : Nat} (hk : k ≤ 254) :
    Real.cos (tableAngle (254 - k)) = Real.sin (tableAngle k) := by
  rw [← Real.cos_pi_div_two_sub]
  congr 1
  rw [tableAngle, tableAngle, Nat.cast_sub hk]
  push_cast
  ring

theorem panCos_nearest {k : Nat} (hk : k ≤ 254) : Nearest (panCos k) (Real.cos (tableAngle k)) := by
  obtain hlow | hhigh := Nat.lt_or_ge k 128
  · exact (panCos_checked_low ⟨k, hlow⟩).nearest (abs_cos_tableAngle_sub_le (by omega))
  obtain ⟨j, hj, rfl⟩ : ∃ j ≤ 126, k = 254 - j := ⟨254 - k, by omega, by omega⟩
  rw [cos_tableAngle_complement (by omega)]
  cases j with
  | zero =>
    have hzero : Real.sin (tableAngle 0) = ((fValue (panCos 254) : ℚ) : ℝ) := by
      rw [tableAngle, Nat.cast_zero, zero_mul, zero_div, Real.sin_zero,
        show panCos 254 = 0#64 by decide, fValue_zero, Rat.cast_zero]
    rw [hzero]
    exact nearest_fValue (by decide)
  | succ j =>
    exact (panCos_checked_high ⟨j, by omega⟩).nearest (abs_sin_tableAngle_sub_le (by omega))

theorem panLeft_eq (pan : Level) : panLeft .constantPower pan = panCos pan.val := rfl

theorem panRight_eq (pan : Level) : panRight .constantPower pan = panCos (254 - pan.val) := rfl

theorem panLeft_nearest (pan : Level) :
    Nearest (panLeft .constantPower pan) (Real.cos (tableAngle pan.val)) :=
  panCos_nearest (Nat.le_of_lt_succ pan.isLt)

theorem panRight_nearest (pan : Level) :
    Nearest (panRight .constantPower pan) (Real.sin (tableAngle pan.val)) := by
  rw [← cos_tableAngle_complement (Nat.le_of_lt_succ pan.isLt)]
  exact panCos_nearest (Nat.sub_le 254 pan.val)

/-- The pan angle is 45° behind the angle of the table (R249). -/
theorem panAngle_add (pan : Level) : panAngle pan + Real.pi / 4 = tableAngle pan.val := by
  rw [panAngle, tableAngle]
  ring

theorem cos_tableAngle (pan : Level) : Real.cos (tableAngle pan.val) =
    Real.sqrt 2 / 2 * (Real.cos (panAngle pan) - Real.sin (panAngle pan)) := by
  rw [← panAngle_add, Real.cos_add, Real.cos_pi_div_four, Real.sin_pi_div_four]
  ring

theorem sin_tableAngle (pan : Level) : Real.sin (tableAngle pan.val) =
    Real.sqrt 2 / 2 * (Real.cos (panAngle pan) + Real.sin (panAngle pan)) := by
  rw [← panAngle_add, Real.sin_add, Real.cos_pi_div_four, Real.sin_pi_div_four]
  ring

/-! ### Range and power -/

/-- A gain: finite and in [0, 1]. -/
abbrev IsGain (v : F64) : Prop := fIsFinite v = true ∧ 0 ≤ fValue v ∧ fValue v ≤ 1

theorem panCos_isGain (k : Fin 255) : IsGain (panCos k) := by
  revert k
  decide +kernel

theorem fOne_isGain : IsGain fOne := by decide +kernel

theorem pan_isGain (law : PanLaw) (pan : Level) :
    IsGain (panLeft law pan) ∧ IsGain (panRight law pan) := by
  cases law with
  | unity => exact ⟨fOne_isGain, fOne_isGain⟩
  | constantPower => exact ⟨panCos_isGain pan, panCos_isGain ⟨254 - pan.val, by omega⟩⟩

theorem volGain_isGain (v : Level) : IsGain (volGain v) := by
  obtain ⟨hpos, -, -, hle⟩ := volGainTable_checked v
  refine ⟨hpos.1, ?_, hle⟩
  rw [fValue_of_nonneg hpos.2.1]
  positivity

theorem panCos_power (k : Fin 255) :
    |fValue (panCos k) ^ 2 + fValue (panCos (254 - k)) ^ 2 - 1| ≤ 1 / 2 ^ 51 := by
  revert k
  decide +kernel

end Sys2Proof.Machine
end

section
/-! The obligations of 43_playback_engine on the gain tables (R248, R249). -/

namespace Sys2Proof.Claims

open Sys2Proof.Machine

/-- Settles O50: the 254th power of `10^(v/254 − 1)` is a power of ten, so the middles around every
entry are compared with it in whole numbers. -/
theorem volGainIsCorrectlyRounded : Obligations.VolGainIsCorrectlyRounded := by
  refine ⟨volGain_nearest, fun v w h => volGain_strictMono h, ?_, by decide⟩
  have htenth : volumeGain (0 : Level).val = 1 / 10 := by
    rw [volumeGain, Fin.val_zero, Nat.cast_zero, zero_div, zero_sub, Real.rpow_neg_one, one_div]
  rw [← htenth]
  exact volGain_nearest 0

/-- Settles O51: the table holds the cosines of pan·π/508, and the formulas of R249 are the addition
theorems at θ + 45°. -/
theorem panGainFacts : Obligations.PanGainFacts := by
  refine ⟨fun _ => ⟨rfl, rfl⟩, fun pan => ⟨?_, ?_, panLeft_nearest pan, panRight_nearest pan⟩,
    by decide, by decide, by decide, by decide, by decide, by decide, fun law pan => ?_,
    fun a b hab => ?_, panCos_power⟩
  · rw [← cos_tableAngle]
    exact panLeft_nearest pan
  · rw [← sin_tableAngle]
    exact panRight_nearest pan
  · obtain ⟨⟨-, hl0, hl1⟩, ⟨-, hr0, hr1⟩⟩ := pan_isGain law pan
    exact ⟨hl0, hl1, hr0, hr1⟩
  · rw [panLeft_eq, panRight_eq, ← hab, Nat.add_sub_cancel]

end Sys2Proof.Claims
end

section
/-! SUPPORT. The size of the contributions of a STEP (R252, R256, R262), and of the read positions
of a PRODUCE (R250, R269). -/

namespace Sys2Proof.Machine

open Sys2Proof.Claims

/-! ### The samples and their gains -/

/-- The bound of R262 on a sample: that of the drum sample −32768, with its rounding. -/
def sampleBound : ℚ := 32768 / 32767 + 1 / 2 ^ 52

theorem waveSample_bounded (b : Byte) : AbsAtMost sampleBound (waveSample b) := by
  obtain ⟨hfin, hval⟩ := waveSample_exact b
  have hlo : (-128 : ℚ) ≤ b.toInt := by exact_mod_cast b.le_toInt
  have hhi : (b.toInt : ℚ) ≤ 128 := by exact_mod_cast b.toInt_lt.le
  refine ⟨hfin, ?_⟩
  rw [hval, sampleBound, abs_le]
  constructor <;> linarith

/-- The binary64 just past 32768/32767. -/
theorem drumBound_isBinary64 : IsBinary64 (4503737070518401 / 2 ^ 52) := by
  obtain ⟨y, hy, hval⟩ :=
    exists_fValue_eq_div_two_pow (z := 4503737070518401) (by norm_num) (k := 52) (by norm_num)
  exact ⟨y, hy, by rw [hval]; norm_num⟩

theorem drumValue_bounded (x : BitVec 16) : AbsAtMost sampleBound (drumValue x) := by
  have hlo : (-32768 : ℚ) ≤ x.toInt := by exact_mod_cast x.le_toInt
  have hhi : (x.toInt : ℚ) ≤ 32768 := by exact_mod_cast x.toInt_lt.le
  obtain ⟨hfin, hround⟩ := fdiv_fofInt (a := x.toInt) (b := 32767)
    (by have := x.toInt_lt; have := x.le_toInt; omega) (by norm_num) (by norm_num)
  have hexact : |(x.toInt : ℚ) / (32767 : Int)| ≤ 4503737070518401 / 2 ^ 52 := by
    rw [abs_le]
    push_cast
    constructor <;> linarith
  refine ⟨hfin, (abs_fValue_le_of_roundedTo hround drumBound_isBinary64 hexact).trans ?_⟩
  rw [sampleBound]
  norm_num

/-- A gain does not raise a value (R248, R249). -/
theorem absAtMost_fmul_gain {B : ℚ} (hB : B ≤ 2) {x g : F64} (hx : AbsAtMost B x) (hg : IsGain g) :
    AbsAtMost B (fmul x g) := by
  obtain ⟨hgfin, hg0, hg1⟩ := hg
  have hsize : |fValue x| * 1 ≤ 2 ^ 1000 := by
    rw [mul_one]
    exact (hx.2.trans hB).trans (le_self_pow₀ one_le_two (by norm_num))
  have hprod := absAtMost_fmul ⟨hx.1, le_rfl⟩ ⟨hgfin, (abs_of_nonneg hg0).trans_le hg1⟩
    (abs_nonneg _) (by rw [mul_one]; exact isBinary64_abs hx.1) hsize
  rw [mul_one] at hprod
  exact hprod.mono hx.2

/-- Both lanes of a contribution. -/
def Contribution.AbsAtMost (B : ℚ) (out : Contribution) : Prop :=
  Machine.AbsAtMost B out.left ∧ Machine.AbsAtMost B out.right

theorem silence_absAtMost {B : ℚ} (hB : 0 ≤ B) : Contribution.silence.AbsAtMost B :=
  ⟨absAtMost_zero hB, absAtMost_zero hB⟩

theorem contributionOf_absAtMost {B : ℚ} (hB : B ≤ 2) {x : F64} (hx : AbsAtMost B x)
    (law : PanLaw) (n : Note) : (contributionOf law n x).AbsAtMost B := by
  obtain ⟨hleft, hright⟩ := pan_isGain law n.pan
  have hvol := volGain_isGain n.volume
  exact ⟨absAtMost_fmul_gain hB (absAtMost_fmul_gain hB hx hleft) hvol,
    absAtMost_fmul_gain hB (absAtMost_fmul_gain hB hx hright) hvol⟩

theorem sampleBound_nonneg : 0 ≤ sampleBound := by norm_num [sampleBound]

theorem sampleBound_le_two : sampleBound ≤ 2 := by norm_num [sampleBound]

/-! ### The contributions of a STEP -/

section
variable {s : State} (hinv : s.Inv) {c : Fin 16}
include hinv

/-- What a melodic voice reads in the bank is a decoded byte (R37). -/
theorem waveAt_bounded (hc : isMelodic c = true) (hcount : 0 < s.song.inst[c].noteCount.toNat)
    (j : Fin 256) : AbsAtMost sampleBound (waveAt s.wave s.song.inst[c].instrumentIndex j) := by
  have hindex := waveIndex_lt_of_validSong hinv.validated hc hcount
  obtain ⟨b, hb⟩ := hinv.waveValues ⟨_, hindex⟩ j
  rw [waveAt_of_lt s.wave j hindex]
  exact hb ▸ waveSample_bounded b

/-- What a streaming voice reads in the bank is a decoded sample (R38). -/
theorem drumAt_bounded (hc : isMelodic c = false) (hmode : s.cfg.percMode = .stream)
    (hcount : 0 < s.song.inst[c].noteCount.toNat) {x : F64}
    (hx : x ∈ drumAt s.drum s.song.inst[c].instrumentIndex) : AbsAtMost sampleBound x := by
  have hindex := drumIndex_lt_of_validSong hinv.validated hc hmode hcount
  rw [← hinv.drumCount] at hindex
  rw [drumAt_of_some (List.getElem?_eq_getElem hindex)] at hx
  obtain ⟨v, rfl⟩ := hinv.drumValues _ (List.getElem_mem hindex) x hx
  exact drumValue_bounded v

/-- Every contribution of a voice is silence or a decoded sample with its gains. -/
theorem voiceStep_absAtMost {t : State} (hsame : SameStores s t) {out : Contribution}
    {ch : Channel} (h : voiceStep c t = .ok (out, ch)) : out.AbsAtMost sampleBound := by
  have hsilence := silence_absAtMost sampleBound_nonneg
  have hgain {x : F64} (hx : AbsAtMost sampleBound x) (n : Note) :=
    contributionOf_absAtMost sampleBound_le_two hx t.cfg.panLaw n
  cases hc : isMelodic c with
  | true =>
    rw [voiceStep_melodic hc, hsame.song, hsame.wave] at h
    obtain ⟨rfl, -, -⟩ | ⟨n, -, -, -, rfl, -⟩ | ⟨n, x, hn, -, -, hx, rfl, -⟩ := melodicStep_cases h
    · exact hsilence
    · exact hsilence
    · obtain ⟨-, hsample⟩ | ⟨-, hfault⟩ :=
        melodicSample_cases t.cfg s.wave s.song.inst[c] n t.ch[c].wavetableOffset
      · obtain rfl := Except.ok.inj (hsample.symm.trans hx)
        exact hgain (waveAt_bounded hinv hc (Nat.zero_lt_of_lt (currentNote_some hn).1) _) n
      · cases hfault.symm.trans hx
  | false =>
    cases hmode : t.cfg.percMode with
    | silent =>
      rw [voiceStep_silent hc hmode] at h
      cases h
      exact hsilence
    | stream =>
      rw [voiceStep_stream hc hmode, hsame.song, hsame.drum] at h
      obtain ⟨rfl, -, -⟩ | ⟨n, -, -, -, rfl, -⟩ | ⟨n, x, hn, -, hx, rfl, -⟩ :=
        percStep_cases (Except.ok.inj h)
      · exact hsilence
      · exact hsilence
      · exact hgain (drumAt_bounded hinv hc (hsame.cfg ▸ hmode)
          (Nat.zero_lt_of_lt (currentNote_some hn).1) (List.mem_of_getElem? hx)) n

/-- The contributions and the frame of a STEP (R262). -/
theorem stepFrame_inRange {t u : State} (hsame : SameStores s t)
    (h : stepFrame t = .ok u) :
    (∀ c : Fin 16, u.contrib[c].AbsAtMost sampleBound) ∧ u.frame.InRange := by
  have hcontrib (c : Fin 16) := voiceStep_absAtMost hinv hsame (stepFrame_voiceStep h c)
  refine ⟨hcontrib, ?_⟩
  rw [stepFrame_mix h]
  exact mixFrame_inRange fun c => ⟨(hcontrib c).1.mono sampleBound_le_two,
    (hcontrib c).2.mono sampleBound_le_two⟩

end

/-! ### Read positions that cannot overflow -/

theorem octRepeat_finite {cfg : Cfg} (h : cfgLegal cfg = true) (o : Fin 8) :
    fIsFinite cfg.octRepeat[o] = true := by
  simp only [cfgLegal, Bool.and_eq_true, List.all_eq_true] at h
  obtain ⟨⟨⟨-, hrepeat⟩, -⟩, -⟩ := h
  exact (hrepeat _ (by simp)).1

theorem isBinary64_two_pow {k : Nat} (hk : k < 971) : IsBinary64 (2 ^ k) := by
  have := isBinary64_mul_two_pow (q := 1) (by norm_num) hk
  rwa [Nat.cast_one, one_mul] at this

/-- An offset of at most `2^533` is far from overflow under the bounds of `State.Tame`: the position
is at most `2^933`. -/
theorem readPosition_finite {s : State} (hlegal : cfgLegal s.cfg = true) (htame : s.Tame)
    {offset : F64} (hoffset : AbsAtMost (2 ^ 533) offset) (o : Fin 8) :
    fIsFinite (readPosition s.cfg o offset) = true := by
  have hsmall {k : Nat} (hk : k ≤ 1000) : (2 : ℚ) ^ k ≤ 2 ^ 1000 :=
    pow_le_pow_right₀ one_le_two hk
  have hfloor : AbsAtMost (2 ^ 533) (ffloor offset) := by
    have := absAtMost_ffloor (N := 2 ^ 533) (a := offset) (by exact_mod_cast hoffset)
    exact_mod_cast this
  have hrepeat : 1 / 2 ^ 200 ≤ |fValue s.cfg.octRepeat[o]| := by
    have hmag := htame.octRepeat o
    rw [zpow_add₀ two_ne_zero, zpow_neg, zpow_ofNat, zpow_ofNat, ← one_div] at hmag
    rwa [abs_fValue, le_div_iff₀ (by positivity)]
  have hquot : (2 : ℚ) ^ 533 / (1 / 2 ^ 200) = 2 ^ 733 := by
    rw [div_div_eq_mul_div, div_one, ← pow_add]
  have hprod : (2 : ℚ) ^ 733 * 2 ^ 200 = 2 ^ 933 := by rw [← pow_add]
  have hdiv := absAtMost_fdiv hfloor (octRepeat_finite hlegal o) (by positivity) hrepeat
    (by rw [hquot]; exact isBinary64_two_pow (by norm_num))
    (by rw [hquot]; exact hsmall (by norm_num))
  rw [hquot] at hdiv
  have hadvance := (fWithin_iff (k := 200)).mp (htame.octAdvance o)
  have hmul := absAtMost_fmul hdiv hadvance (by positivity)
    (by rw [hprod]; exact isBinary64_two_pow (by norm_num))
    (by rw [hprod]; exact hsmall (by norm_num))
  rw [readPosition_of_lt]
  exact (ffloor_exact hmul.1).1

/-! ### Offsets along a PRODUCE -/

theorem cast_mul_two_pow_le {k m j : Nat} (h : k ≤ 2 ^ m) : (k : ℚ) * 2 ^ j ≤ 2 ^ (m + j) := by
  rw [pow_add]
  exact mul_le_mul_of_nonneg_right (by exact_mod_cast h) (by positivity)

/-- The offset a voice leaves: the one it found, that and a note's speed, or 0 at a note's end. -/
theorem voiceStep_offset {s : State} {c : Fin 16} {out : Contribution} {ch : Channel}
    (h : voiceStep c s = .ok (out, ch)) :
    ch.wavetableOffset = 0#64 ∨ ch.wavetableOffset = s.ch[c].wavetableOffset ∨
      ∃ n ∈ s.song.inst[c].notes, ch.wavetableOffset = fadd s.ch[c].wavetableOffset n.speed := by
  have hend (ch' : Channel) (n : Note) : (ch'.endIf s.p n).wavetableOffset = 0#64 ∨
      (ch'.endIf s.p n).wavetableOffset = ch'.wavetableOffset := by
    obtain he | he := ch'.endIf_cases s.p n
    · exact .inl (by rw [he]; rfl)
    · exact .inr (by rw [he])
  cases hc : isMelodic c with
  | true =>
    rw [voiceStep_melodic hc] at h
    obtain ⟨-, rfl, -⟩ | ⟨n, -, -, -, -, rfl⟩ | ⟨n, x, hn, -, -, -, -, rfl⟩ := melodicStep_cases h
    · exact .inr (.inl rfl)
    · exact (hend _ n).imp_right .inl
    · have hmem := List.mem_of_getElem? (currentNote_some hn).2
      exact (hend (s.ch[c].tone n) n).imp_right fun h => .inr ⟨n, hmem, h⟩
  | false =>
    cases hmode : s.cfg.percMode with
    | silent =>
      rw [voiceStep_silent hc hmode] at h
      cases h
      exact .inr (.inl rfl)
    | stream =>
      rw [voiceStep_stream hc hmode] at h
      obtain ⟨-, rfl, -⟩ | ⟨n, -, -, -, -, rfl⟩ | ⟨n, x, -, -, -, -, rfl⟩ :=
        percStep_cases (Except.ok.inj h)
      · exact .inr (.inl rfl)
      · exact (hend _ n).imp_right .inl
      · exact (hend _ n).imp_right .inl

/-- What PRODUCE keeps of `s` through its first `k` STEPs: the stores, and offsets that have grown
by at most one speed of State.Tame in each STEP. -/
def TameAfter (s : State) (k : Nat) (t : State) : Prop :=
  SameStores s t ∧ ∀ c : Fin 16, AbsAtMost ((k + 1 : Nat) * 2 ^ 500) t.ch[c].wavetableOffset

section
variable {s t : State} {k : Nat} (hinv : s.Inv) (htame : s.Tame) (h : TameAfter s k t)
  (hk : k < 2 ^ 32)
include hinv htame h hk

theorem TameAfter.positionFinite (c : Fin 16) (hc : isMelodic c = true) : t.PositionFinite c := by
  intro n hn _ _
  obtain ⟨hsame, hoffset⟩ := h
  rw [hsame.song] at hn
  have hoct := octave_lt_of_validSong hinv.validated hc
    (List.mem_of_getElem? (currentNote_some hn).2)
  rw [hsame.cfg]
  refine readPosition_finite hinv.cfgLegal htame ((hoffset c).mono ?_) ⟨n.octave, hoct⟩
  exact cast_mul_two_pow_le (m := 33) (by omega)

/-- A STEP adds one speed of at most `2^500` to an offset, and the bound is a binary64. -/
theorem TameAfter.stepFrame : ∃ u, stepFrame t = .ok u ∧ TameAfter s (k + 1) u := by
  obtain ⟨u, hu⟩ := stepFrame_of_ok fun c =>
    voiceStep_of_positionFinite (h.positionFinite hinv htame hk c)
  obtain ⟨hsame, hoffset⟩ := h
  refine ⟨u, hu, hsame.trans (stepFrame_frame hu).1, fun c => ?_⟩
  have hnext : ((k + 1 : Nat) : ℚ) * 2 ^ 500 + 2 ^ 500 = (k + 1 + 1 : Nat) * 2 ^ 500 := by
    rw [Nat.cast_succ (k + 1), add_mul, one_mul]
  have hgrow : ((k + 1 : Nat) : ℚ) * 2 ^ 500 ≤ (k + 1 + 1 : Nat) * 2 ^ 500 := by
    rw [← hnext]
    exact le_add_of_nonneg_right (by positivity)
  obtain h0 | h0 | ⟨n, hn, h0⟩ := voiceStep_offset (stepFrame_voiceStep hu c)
  · rw [h0]
    exact absAtMost_zero (by positivity)
  · rw [h0]
    exact (hoffset c).mono hgrow
  · rw [hsame.song] at hn
    have hspeed := (fWithin_iff (k := 500)).mp (htame.speed c n hn)
    rw [h0, ← hnext]
    refine absAtMost_fadd (hoffset c) hspeed ?_ ?_
    · rw [hnext]
      exact isBinary64_mul_two_pow (by omega) (by norm_num)
    · rw [hnext]
      exact (cast_mul_two_pow_le (m := 33) (by omega)).trans
        (pow_le_pow_right₀ one_le_two (by norm_num))

end

theorem tameAfter_zero {s : State} (htame : s.Tame) : TameAfter s 0 s := by
  refine ⟨SameStores.refl s, fun c => ?_⟩
  rw [Nat.zero_add, Nat.cast_one, one_mul]
  exact (fWithin_iff (k := 500)).mp (htame.offset c)

end Sys2Proof.Machine
end

section
/-! The obligations of 43_playback_engine on the mixer (R258–R262, R268), and that PRODUCE completes
(R269). -/

namespace Sys2Proof.Claims

open Sys2Proof.Machine

/-- Settles O31: each STEP moves an offset by one bounded speed, and 2^32 of them stay in bounds. -/
theorem produceCompletes : Obligations.ProduceCompletes := by
  intro n s hmode hinv htame
  obtain ⟨fs, t, ht⟩ := produceFrames_of_progress (N := 2 ^ 32) (n := n.toNat) (k := 0)
    (fun k hk u hu => hu.stepFrame hinv htame hk) (by have := n.isLt; omega) (tameAfter_zero htame)
  obtain ⟨-, hp, hlen⟩ := produceFrames_frame ht
  exact ⟨_, fs, exec_produce_ok hmode ht, rfl, hlen, hp⟩

/-- Settles O45: the channels in order are the contributions in order. -/
theorem mixClampSumsInOrder : Obligations.MixClampSumsInOrder := by
  intro s
  rw [← mixLane_eq, ← mixLane_eq]
  rfl

/-- Settles O46: the clamp by its three cases, and RN32 keeps what ±1.0 bound. -/
theorem limiterRange : Obligations.LimiterRange := by
  intro x hx
  obtain ⟨hfin, habs⟩ := rn32_of_absAtMost_one (absAtMost_clamp hx)
  obtain ⟨hlo, hhi⟩ := abs_le.mp habs
  exact ⟨clamp_above hx, clamp_below hx, clamp_between hx, hfin, hlo, hhi⟩

/-- Settles O47: a sum is −0.0 only where both operands are, and a lane starts from +0.0. -/
theorem mixSumIsNeverNegativeZero : Obligations.MixSumIsNeverNegativeZero :=
  fun s => ⟨mixLane_ne_negZero _ s.contrib, mixLane_ne_negZero _ s.contrib⟩

/-- Settles O48: samples are decoded values and gains at most 1, so no sum overflows before the
limiter. -/
theorem framesLieInRange : Obligations.FramesLieInRange := by
  refine ⟨fun s t hinv h => ?_, fun n s t fs hinv h hresult => ?_⟩
  · obtain ⟨hcontrib, hframe⟩ := stepFrame_inRange hinv (SameStores.refl s) (stepFrame_of_exec h)
    refine ⟨fun c => ?_, hframe⟩
    obtain ⟨⟨hlfin, hlabs⟩, ⟨hrfin, hrabs⟩⟩ := hcontrib c
    exact ⟨hlfin, hrfin, hlabs, hrabs⟩
  · obtain ⟨-, gs, u, hu, rfl⟩ := execProduce_cases h
    obtain rfl : gs = fs := HostResult.frames.inj hresult
    exact (produceFrames_invariant (P := SameStores s) (Q := Frame.InRange)
      (fun v w hv hw => ⟨hv.trans (stepFrame_frame hw).1, (stepFrame_inRange hinv hv hw).2⟩)
      (SameStores.refl s) hu).2

end Sys2Proof.Claims
end

section
/-! SUPPORT. When VALIDATE rejects a song (R241), and what CONSTRUCT answers then (R240). -/

namespace Sys2Proof.Machine

section
variable {cfg : Cfg} {song : Song} {c : Fin 16}

theorem validSong_eq_false_iff : validSong cfg song = false ↔ ∃ c, badIndex cfg song c = true := by
  rw [validSong, List.all_eq_false]
  simp [mem_channels]

/-- The cases (a) and (b) of R241. -/
theorem badIndex_melodic_iff (hc : isMelodic c = true) : badIndex cfg song c = true ↔
    (0 < song.inst[c].noteCount.toNat ∧ 100 ≤ song.inst[c].instrumentIndex.toNat) ∨
      ∃ n ∈ song.inst[c].notes, 96 ≤ n.pitch.val := by
  have hoct (n : Note) : 8 ≤ n.octave ↔ 96 ≤ n.pitch.val := by
    rw [Note.octave]
    omega
  simp only [badIndex, if_pos hc, Bool.or_eq_true, Bool.and_eq_true, decide_eq_true_iff,
    List.any_eq_true, hoct]

/-- The case (c) of R241. -/
theorem badIndex_percussion_iff (hc : isMelodic c = false) : badIndex cfg song c = true ↔
    cfg.percMode = .stream ∧ 0 < song.inst[c].noteCount.toNat ∧
      cfg.numDrums ≤ song.inst[c].instrumentIndex.toNat := by
  simp only [badIndex, hc, Bool.false_eq_true, if_false, Bool.and_eq_true, beq_iff_eq,
    decide_eq_true_iff, and_assoc]

end

/-- A CONSTRUCT that reaches VALIDATE fails with InvalidIndex exactly where VALIDATE rejects the
song. -/
theorem exec_construct_validate {cfg : Cfg} {songIn waveIn : List Byte} {drumIn : List (List Byte)}
    (s : State) {song : Song} {wave : WaveBank} {drum : List (List F64)}
    (hlegal : cfgLegal cfg = true) (hcount : drumIn.length = cfg.numDrums)
    (hsong : parse cfg songIn = .ok song) (hwave : decodeWaveBank waveIn = .ok wave)
    (hdrum : decodeDrums drumIn = .ok drum) :
    ∃ t, exec (.construct cfg songIn waveIn drumIn) s = .next t ∧
      (t.result = .failed .invalidIndex ↔ validSong cfg song = false) := by
  have hbuild : buildEngine cfg songIn waveIn drumIn =
      if validSong cfg song then .ok (song, wave, drum) else .error .invalidIndex := by
    simp only [buildEngine, hsong, hwave, hdrum]
  change ∃ t, execConstruct cfg songIn waveIn drumIn s = .next t ∧ _
  cases hvalid : validSong cfg song with
  | true =>
    rw [hvalid, if_pos rfl] at hbuild
    refine ⟨_, by simp only [execConstruct, hlegal, hcount, hbuild, if_true]; rfl, ?_⟩
    simp
  | false =>
    rw [hvalid, if_neg Bool.false_ne_true] at hbuild
    exact ⟨_, execConstruct_of_error hlegal hcount hbuild s, by simp⟩

end Sys2Proof.Machine
end

section
/-! The obligation of 43_playback_engine on VALIDATE (R241). -/

namespace Sys2Proof.Claims

open Sys2Proof.Machine

/-- Settles O28: a song is rejected for one of its channels, and each kind of channel has its
cases. -/
theorem validateRejectsExactlyTheListedIndices :
    Obligations.ValidateRejectsExactlyTheListedIndices := by
  intro cfg songIn waveIn drumIn s song wave drum hlegal hcount hsong hwave hdrum
  obtain ⟨t, ht, hresult⟩ := exec_construct_validate s hlegal hcount hsong hwave hdrum
  refine ⟨t, ht, hresult.trans (validSong_eq_false_iff.trans ⟨?_, ?_⟩)⟩
  · rintro ⟨c, hbad⟩
    cases hc : isMelodic c with
    | true =>
      obtain ⟨hnotes, hindex⟩ | hpitch := (badIndex_melodic_iff hc).mp hbad
      · exact .inl ⟨c, isMelodic_iff.mp hc, hnotes, hindex⟩
      · exact .inr (.inl ⟨c, isMelodic_iff.mp hc, hpitch⟩)
    | false =>
      obtain ⟨hmode, hnotes, hindex⟩ := (badIndex_percussion_iff hc).mp hbad
      exact .inr (.inr ⟨hmode, c, isMelodic_eq_false_iff.mp hc, hnotes, hindex⟩)
  · rintro (⟨c, hc, hindex⟩ | ⟨c, hc, hpitch⟩ | ⟨hmode, c, hc, hindex⟩)
    · exact ⟨c, (badIndex_melodic_iff (isMelodic_of_lt hc)).mpr (.inl hindex)⟩
    · exact ⟨c, (badIndex_melodic_iff (isMelodic_of_lt hc)).mpr (.inr hpitch)⟩
    · exact ⟨c, (badIndex_percussion_iff (isMelodic_of_le hc)).mpr ⟨hmode, hindex⟩⟩

end Sys2Proof.Claims
end

section
/-! SUPPORT. What CONSTRUCT answers from the outcomes of its four stages (R240, R315). -/

namespace Sys2Proof.Machine

variable {cfg : Cfg} {songIn waveIn : List Byte} {drumIn : List (List Byte)} {song : Song}
  {wave : WaveBank} {drum : List (List F64)} {e : Err}

theorem buildEngine_of_songError (hsong : parse cfg songIn = .error e) :
    buildEngine cfg songIn waveIn drumIn = .error e := by
  simp only [buildEngine, hsong]

theorem buildEngine_of_waveError (hsong : parse cfg songIn = .ok song)
    (hwave : decodeWaveBank waveIn = .error e) :
    buildEngine cfg songIn waveIn drumIn = .error e := by
  simp only [buildEngine, hsong, hwave]

/-- Where stages 1 to 3 succeed, VALIDATE alone decides (R241). -/
theorem buildEngine_of_stages (hsong : parse cfg songIn = .ok song)
    (hwave : decodeWaveBank waveIn = .ok wave) (hdrum : decodeDrums drumIn = .ok drum) :
    buildEngine cfg songIn waveIn drumIn =
      if validSong cfg song then .ok (song, wave, drum) else .error .invalidIndex := by
  simp only [buildEngine, hsong, hwave, hdrum]

theorem buildEngine_of_invalid (hsong : parse cfg songIn = .ok song)
    (hwave : decodeWaveBank waveIn = .ok wave) (hdrum : decodeDrums drumIn = .ok drum)
    (hvalid : validSong cfg song = false) :
    buildEngine cfg songIn waveIn drumIn = .error .invalidIndex := by
  rw [buildEngine_of_stages hsong hwave hdrum, hvalid, if_neg Bool.false_ne_true]

/-- A legal CONSTRUCT whose stages succeed commits and answers the song's bounds (R240, R351). -/
theorem execConstruct_of_ok (hlegal : cfgLegal cfg = true) (hcount : drumIn.length = cfg.numDrums)
    (h : buildEngine cfg songIn waveIn drumIn = .ok (song, wave, drum)) (s : State) :
    execConstruct cfg songIn waveIn drumIn s = .next ((s.commit cfg song wave drum).putResult
      (.constructed song.songStartSample song.songEndSample)) := by
  simp only [execConstruct, hlegal, hcount, h, if_true]

end Sys2Proof.Machine
end

section
/-! SUPPORT. The outcome of PARSE (R170) on any bytes, from their length, the magic and the note
counts alone (R186, R311, R312, R314). -/

namespace Sys2Proof.Machine

open Sys2Proof.Claims

/-! ### One record -/

section
variable {bs : List Byte}

theorem decodeSongHeader_of_lt (h : bs.length < 17) : decodeSongHeader bs = none := by
  unfold decodeSongHeader
  split
  · simp only [List.length_cons] at h
    omega
  · rfl

theorem decodeSongHeader_of_le (h : 17 ≤ bs.length) :
    ∃ r, decodeSongHeader bs = some (r, bs.drop 17) ∧ r.magic = magicAt bs := by
  match bs, h with
  | _ :: _ :: _ :: _ :: _ :: _ :: _ :: _ :: bs', h =>
    have h9 : 9 ≤ bs'.length := by simpa using h
    match bs', h9 with
    | _ :: _ :: _ :: _ :: _ :: _ :: _ :: _ :: _ :: _, _ => exact ⟨_, rfl, rfl⟩

theorem decodeInstrumentHeader_of_lt (h : bs.length < 6) : decodeInstrumentHeader bs = none := by
  unfold decodeInstrumentHeader
  split
  · simp only [List.length_cons] at h
    omega
  · rfl

/-- The INSTRUMENT_HEADER at the front of the bytes (R113), with 0 for a byte past their end. -/
def instrumentRecAt (bs : List Byte) : InstrumentRec where
  voiceId := le16 (byteAt bs 0) (byteAt bs 1)
  instrumentIndex := byteAt bs 2
  shortNoteByte := byteAt bs 3
  noteCount := le16 (byteAt bs 4) (byteAt bs 5)

theorem decodeInstrumentHeader_of_le (h : 6 ≤ bs.length) :
    decodeInstrumentHeader bs = some (instrumentRecAt bs, bs.drop 6) := by
  match bs, h with
  | _ :: _ :: _ :: _ :: _ :: _ :: _, _ => rfl

theorem decodeNote_of_lt (h : bs.length < 8) : decodeNote bs = none := by
  unfold decodeNote
  split
  · simp only [List.length_cons] at h
    omega
  · rfl

theorem decodeNote_of_le (h : 8 ≤ bs.length) : ∃ r, decodeNote bs = some (r, bs.drop 8) := by
  match bs, h with
  | _ :: _ :: _ :: _ :: _ :: _ :: _ :: _ :: _, _ => exact ⟨_, rfl⟩

end

theorem le16_toNat (b0 b1 : Byte) : (le16 b0 b1).toNat = b0.toNat + 256 * b1.toNat := by
  rw [le16, BitVec.toNat_append, ← Nat.shiftLeft_add_eq_or_of_lt b0.isLt, Nat.shiftLeft_eq]
  omega

/-! ### The song header -/

section
variable {cfg : Cfg} {bs : List Byte}

/-- With fewer than six bytes there is no magic to refuse. -/
theorem magicRefused_of_lt (cfg : Cfg) (h : bs.length < 6) : magicRefused cfg bs = false := by
  unfold magicRefused
  split
  · simp only [List.length_cons] at h
    omega
  · rfl

theorem parseHeader_of_lt (hm : magicRefused cfg bs = false) (h : bs.length < 17) :
    parseHeader cfg bs = .error .truncatedInput := by
  simp only [parseHeader, hm, decodeSongHeader_of_lt h, Bool.false_eq_true, if_false]

theorem parseHeader_of_le (hm : magicRefused cfg bs = false) (h : 17 ≤ bs.length) :
    ∃ song, parseHeader cfg bs = .ok (song, bs.drop 17) := by
  obtain ⟨r, hr, hmagic⟩ := decodeSongHeader_of_le h
  have hok : magicOk cfg r.magic = true := by
    rw [magicRefused_of_le cfg (by omega), Bool.not_eq_false'] at hm
    rwa [hmagic]
  exact ⟨Song.empty.withHeader cfg r, by
    simp only [parseHeader, hm, hr, songHeaderInto_accepted hok, Bool.false_eq_true, if_false]⟩

end

/-! ### The instrument headers -/

theorem parseInstruments_of_lt {is : List (Fin 16)} {song : Song} {bs : List Byte}
    (h : bs.length < 6 * is.length) : parseInstruments is song bs = .error .truncatedInput := by
  induction is generalizing song bs with
  | nil => simp at h
  | cons i is ih =>
    rw [List.length_cons] at h
    by_cases hlen : bs.length < 6
    · simp only [parseInstruments, decodeInstrumentHeader_of_lt hlen]
    · have hrest : (bs.drop 6).length < 6 * is.length := by rw [List.length_drop]; omega
      simp only [parseInstruments, decodeInstrumentHeader_of_le (Nat.le_of_not_lt hlen), ih hrest]

/-- Where `f` names the k-th run of six bytes by the k-th instrument, each instrument gets its own
header. -/
theorem parseInstruments_of_le {f : Fin 16 → InstrumentRec} {is : List (Fin 16)} {song : Song}
    {bs : List Byte} (h : 6 * is.length ≤ bs.length)
    (hf : ∀ (k : Nat) (i : Fin 16), is[k]? = some i → f i = instrumentRecAt (bs.drop (6 * k))) :
    parseInstruments is song bs =
      .ok (song.updateEach (fun i => Instrument.withHeader (f i)) is, bs.drop (6 * is.length)) := by
  induction is generalizing song bs with
  | nil => rfl
  | cons i is ih =>
    rw [List.length_cons] at h
    have hrest : 6 * is.length ≤ (bs.drop 6).length := by rw [List.length_drop]; omega
    have hfirst : f i = instrumentRecAt bs := hf 0 i rfl
    have hnext (k : Nat) (j : Fin 16) (hk : is[k]? = some j) :
        f j = instrumentRecAt ((bs.drop 6).drop (6 * k)) := by
      rw [hf (k + 1) j hk, List.drop_drop, Nat.mul_succ, Nat.add_comm]
    simp only [parseInstruments, decodeInstrumentHeader_of_le (bs := bs) (by omega), ← hfirst]
    rw [ih hrest hnext, instrumentHeaderInto_eq, Song.updateEach_cons, List.drop_drop,
      List.length_cons, Nat.mul_succ, Nat.add_comm]

/-! ### The note streams -/

section
variable {cfg : Cfg}

/-- A note stream that ends early is InvalidFormat (R186). -/
theorem parseNotes_of_lt {waitMs : Byte} {voiceId : BitVec 16} {n : Nat} {prev : Prev}
    {bs : List Byte} (h : bs.length < 8 * n) :
    parseNotes cfg waitMs voiceId n prev bs = .error .invalidFormat := by
  induction n generalizing prev bs with
  | zero => simp at h
  | succ n ih =>
    by_cases hlen : bs.length < 8
    · simp only [parseNotes, decodeNote_of_lt hlen]
    · obtain ⟨r, hr⟩ := decodeNote_of_le (Nat.le_of_not_lt hlen)
      have hrest : (bs.drop 8).length < 8 * n := by rw [List.length_drop]; omega
      simp only [parseNotes, hr, ih hrest]

theorem parseNotes_of_le {waitMs : Byte} {voiceId : BitVec 16} {n : Nat} {prev : Prev}
    {bs : List Byte} (h : 8 * n ≤ bs.length) :
    ∃ notes, parseNotes cfg waitMs voiceId n prev bs = .ok (notes, bs.drop (8 * n)) := by
  induction n generalizing prev bs with
  | zero => exact ⟨[], rfl⟩
  | succ n ih =>
    obtain ⟨r, hr⟩ := decodeNote_of_le (bs := bs) (by omega)
    obtain ⟨notes, hnotes⟩ := ih (prev := inheritAll prev r) (bs := bs.drop 8)
      (by rw [List.length_drop]; omega)
    refine ⟨noteOf cfg waitMs voiceId r.beat (inheritAll prev r) :: notes, ?_⟩
    simp only [parseNotes, hr, hnotes]
    rw [List.drop_drop, Nat.mul_succ, Nat.add_comm]

theorem setNotes_noteCount (i j : Fin 16) (notes : List Note) (song : Song) :
    (setNotes i notes song).inst[j].noteCount = song.inst[j].noteCount := by
  rw [setNotes_eq]
  by_cases hij : j = i
  · subst hij
    rw [Song.updateInst_same]
    rfl
  · rw [Song.updateInst_other _ _ hij]

variable {count : Fin 16 → Nat}

theorem parseStreams_of_lt {is : List (Fin 16)} {song : Song} {bs : List Byte}
    (hcount : ∀ i : Fin 16, song.inst[i].noteCount.toNat = count i)
    (h : bs.length < 8 * (is.map count).sum) :
    parseStreams cfg is song bs = .error .invalidFormat := by
  induction is generalizing song bs with
  | nil => simp at h
  | cons i is ih =>
    rw [List.map_cons, List.sum_cons] at h
    by_cases hlen : bs.length < 8 * count i
    · simp only [parseStreams, hcount, parseNotes_of_lt hlen]
    · obtain ⟨notes, hnotes⟩ := parseNotes_of_le (cfg := cfg) (waitMs := song.waitMs)
        (voiceId := song.inst[i].voiceId) (prev := Prev.zero) (Nat.le_of_not_lt hlen)
      simp only [parseStreams, hcount, hnotes]
      exact ih (fun j => by rw [setNotes_noteCount, hcount]) (by rw [List.length_drop]; omega)

theorem parseStreams_of_le {is : List (Fin 16)} {song : Song} {bs : List Byte}
    (hcount : ∀ i : Fin 16, song.inst[i].noteCount.toNat = count i)
    (h : 8 * (is.map count).sum ≤ bs.length) :
    ∃ r, parseStreams cfg is song bs = .ok r := by
  induction is generalizing song bs with
  | nil => exact ⟨(song, bs), rfl⟩
  | cons i is ih =>
    rw [List.map_cons, List.sum_cons] at h
    obtain ⟨notes, hnotes⟩ := parseNotes_of_le (cfg := cfg) (waitMs := song.waitMs)
      (voiceId := song.inst[i].voiceId) (n := count i) (prev := Prev.zero) (bs := bs) (by omega)
    simp only [parseStreams, hcount, hnotes]
    exact ih (fun j => by rw [setNotes_noteCount, hcount]) (by rw [List.length_drop]; omega)

end

/-! ### PARSE -/

section
variable {cfg : Cfg} {bs : List Byte} (hm : magicRefused cfg bs = false)

theorem parse_of_refused (h : magicRefused cfg bs = true) :
    parse cfg bs = .error .invalidFormat := by
  simp only [parse, parseHeader_refused h]

theorem noteTotal_eq (bs : List Byte) :
    noteTotal bs = (channels.map fun i : Fin 16 => countAt bs i).sum := rfl

theorem channels_length : channels.length = 16 := rfl

/-- Bytes 21 + 6i and 22 + 6i are the count of the i-th instrument header (R110). -/
theorem instrumentRecAt_noteCount (bs : List Byte) (i : Nat) :
    (instrumentRecAt ((bs.drop 17).drop (6 * i))).noteCount.toNat = countAt bs i := by
  simp only [instrumentRecAt, le16_toNat, List.drop_drop, byteAt_drop, countAt]
  rw [Nat.add_right_comm 17 _ 4, Nat.add_right_comm 17 _ 5]

theorem channels_getElem? {k : Nat} {i : Fin 16} (h : channels[k]? = some i) : i.val = k := by
  rw [channels_eq_finRange] at h
  obtain ⟨_, rfl⟩ := List.getElem?_eq_some_iff.mp h
  simp

include hm

/-- Bytes that end inside the 17 + 16 · 6 bytes of the headers are TruncatedInput (R311). -/
theorem parse_of_lt (h : bs.length < 113) : parse cfg bs = .error .truncatedInput := by
  by_cases hlen : bs.length < 17
  · simp only [parse, parseHeader_of_lt hm hlen]
  · obtain ⟨song, hsong⟩ := parseHeader_of_le hm (Nat.le_of_not_lt hlen)
    have hrest : (bs.drop 17).length < 6 * channels.length := by
      rw [List.length_drop, channels_length]
      omega
    simp only [parse, hsong, parseInstruments_of_lt hrest]

/-- Behind complete headers PARSE is the note streams, with the note counts that the headers
give. -/
theorem parse_of_le (h : 113 ≤ bs.length) :
    ∃ song : Song, (∀ i : Fin 16, song.inst[i].noteCount.toNat = countAt bs i) ∧
      parse cfg bs = (parseStreams cfg channels song (bs.drop 113)).map Prod.fst := by
  obtain ⟨song, hsong⟩ := parseHeader_of_le hm (by omega)
  have hrest : 6 * channels.length ≤ (bs.drop 17).length := by
    rw [List.length_drop, channels_length]
    omega
  have hinsts := parseInstruments_of_le (song := song) hrest
    (f := fun i => instrumentRecAt ((bs.drop 17).drop (6 * i)))
    (fun k i hk => by rw [channels_getElem? hk])
  refine ⟨song.updateEach (fun i => Instrument.withHeader
    (instrumentRecAt ((bs.drop 17).drop (6 * i)))) channels, fun i => ?_, ?_⟩
  · rw [Song.updateEach_channels]
    exact instrumentRecAt_noteCount bs i
  · rw [List.drop_drop, channels_length] at hinsts
    simp only [parse, hsong, hinsts]
    cases parseStreams cfg channels _ (bs.drop 113) <;> rfl

/-- Bytes that end inside the note streams are InvalidFormat (R186, R312). -/
theorem parse_of_lt_notes (hlen : 113 ≤ bs.length) (h : bs.length < 113 + 8 * noteTotal bs) :
    parse cfg bs = .error .invalidFormat := by
  obtain ⟨song, hcount, hparse⟩ := parse_of_le hm hlen
  rw [noteTotal_eq] at h
  rw [hparse, parseStreams_of_lt hcount (by rw [List.length_drop]; omega)]
  rfl

theorem parse_of_le_notes (h : 113 + 8 * noteTotal bs ≤ bs.length) :
    ∃ song, parse cfg bs = .ok song := by
  obtain ⟨song, hcount, hparse⟩ := parse_of_le hm (by omega)
  rw [noteTotal_eq] at h
  obtain ⟨⟨song', rest⟩, hr⟩ := parseStreams_of_le (cfg := cfg) (is := channels)
    (bs := bs.drop 113) hcount (by rw [List.length_drop]; omega)
  exact ⟨song', by rw [hparse, hr]; rfl⟩

end

end Sys2Proof.Machine
end

section
/-! SUPPORT. The precedence of R314 is the order of the stages: `earlyError` is the error of
stages 1 to 3. -/

namespace Sys2Proof.Machine

open Sys2Proof.Claims

variable {cfg : Cfg} {songIn waveIn : List Byte} {drumIn : List (List Byte)}

theorem magicRefused_of_magicOk {bs : List Byte} (hlen : ¬bs.length < 6)
    (h : ¬magicOk cfg (magicAt bs) = false) : magicRefused cfg bs = false := by
  rw [magicRefused_of_le cfg (Nat.le_of_not_lt hlen), Bool.not_eq_false']
  exact (Bool.not_eq_false _).mp h

theorem decodeWaveBank_of_lt (h : waveIn.length < 25600) :
    decodeWaveBank waveIn = .error .truncatedInput :=
  decodeWaves_of_lt (by rw [List.length_finRange]; omega)

theorem decodeWaveBank_of_le (h : 25600 ≤ waveIn.length) :
    ∃ wave, decodeWaveBank waveIn = .ok wave := by
  obtain ⟨wave, hwave, -⟩ := decodeWaves_of_le (List.nodup_finRange 100) (wave := WaveBank.empty)
    (bs := waveIn) (by rw [List.length_finRange]; omega)
  exact ⟨wave, hwave⟩

theorem buildEngine_of_earlyError {e : Err} (h : earlyError cfg songIn waveIn drumIn = some e) :
    buildEngine cfg songIn waveIn drumIn = .error e := by
  unfold earlyError at h
  split_ifs at h with h6 hmagic h113 hnotes hwaveLen hodd <;> cases h
  · exact buildEngine_of_songError (parse_of_lt (magicRefused_of_lt cfg h6) (by omega))
  · exact buildEngine_of_songError (parse_of_refused (by
      rw [magicRefused_of_le cfg (Nat.le_of_not_lt h6), hmagic]
      rfl))
  · exact buildEngine_of_songError (parse_of_lt (magicRefused_of_magicOk h6 hmagic) h113)
  · exact buildEngine_of_songError (parse_of_lt_notes (magicRefused_of_magicOk h6 hmagic)
      (Nat.le_of_not_lt h113) hnotes)
  · obtain ⟨song, hsong⟩ := parse_of_le_notes (magicRefused_of_magicOk h6 hmagic)
      (Nat.le_of_not_lt hnotes)
    exact buildEngine_of_waveError hsong (decodeWaveBank_of_lt hwaveLen)
  · obtain ⟨song, hsong⟩ := parse_of_le_notes (magicRefused_of_magicOk h6 hmagic)
      (Nat.le_of_not_lt hnotes)
    obtain ⟨wave, hwave⟩ := decodeWaveBank_of_le (Nat.le_of_not_lt hwaveLen)
    exact buildEngine_of_drumError hsong hwave (decodeDrums_of_odd (by simpa using hodd))

theorem stages_of_no_earlyError (h : earlyError cfg songIn waveIn drumIn = none) :
    (∃ song, parse cfg songIn = .ok song) ∧ (∃ wave, decodeWaveBank waveIn = .ok wave) ∧
      ∃ drum, decodeDrums drumIn = .ok drum := by
  unfold earlyError at h
  split_ifs at h with h6 hmagic h113 hnotes hwaveLen hodd
  have heven : ∀ d ∈ drumIn, d.length % 2 = 0 := by simpa using hodd
  obtain ⟨drum, hdrum, -⟩ := decodeDrums_of_even heven
  exact ⟨parse_of_le_notes (magicRefused_of_magicOk h6 hmagic) (Nat.le_of_not_lt hnotes),
    decodeWaveBank_of_le (Nat.le_of_not_lt hwaveLen), drum, hdrum⟩

end Sys2Proof.Machine
end

section
/-! The obligations of 60_exceptions: what a failed CONSTRUCT changes (R315), and the precedence of
its errors (R310–R314). -/

namespace Sys2Proof.Claims

open Sys2Proof.Machine

/-- Settles O25: each stage's error is CONSTRUCT's, and an error is only an answer. -/
theorem failedConstructChangesNothing : Obligations.FailedConstructChangesNothing := by
  intro cfg songIn waveIn drumIn s e hlegal hcount
  have hfail {e : Err} (h : buildEngine cfg songIn waveIn drumIn = .error e) :
      exec (.construct cfg songIn waveIn drumIn) s = .next { s with result := .failed e } :=
    execConstruct_of_error hlegal hcount h s
  exact ⟨fun hsong => hfail (buildEngine_of_songError hsong),
    fun _ hsong hwave => hfail (buildEngine_of_waveError hsong hwave),
    fun _ _ hsong hwave hdrum => hfail (buildEngine_of_drumError hsong hwave hdrum),
    fun _ _ _ hsong hwave hdrum hvalid => hfail (buildEngine_of_invalid hsong hwave hdrum hvalid)⟩

/-- Settles O26: the lengths and the magic decide stages 1 to 3, and VALIDATE the rest. -/
theorem constructOutcomeByPrecedence : Obligations.ConstructOutcomeByPrecedence := by
  refine ⟨rfl, rfl, rfl, fun cfg songIn waveIn drumIn s hlegal hcount => ?_⟩
  cases he : earlyError cfg songIn waveIn drumIn with
  | some e => exact ⟨_, execConstruct_of_error hlegal hcount (buildEngine_of_earlyError he) s, rfl⟩
  | none =>
    obtain ⟨⟨song, hsong⟩, ⟨wave, hwave⟩, drum, hdrum⟩ := stages_of_no_earlyError he
    cases hvalid : validSong cfg song with
    | true =>
      have hbuild := (buildEngine_of_stages hsong hwave hdrum).trans (if_pos hvalid)
      exact ⟨_, execConstruct_of_ok hlegal hcount hbuild s, song, hsong, (if_pos hvalid).symm⟩
    | false =>
      have hbuild := buildEngine_of_invalid hsong hwave hdrum hvalid
      exact ⟨_, execConstruct_of_error hlegal hcount hbuild s, song, hsong, by rw [hvalid]; rfl⟩

end Sys2Proof.Claims
end

section
/-! SUPPORT. A PRODUCE is the PRODUCEs of its parts (R267): a run of STEPs can be cut anywhere, and
no STEP reads the answer that a PRODUCE before it left (R49). -/

namespace Sys2Proof.Machine

section
variable {s u : State}

theorem produceFrames_succ_ok_iff {n : Nat} {fs : List Frame} :
    produceFrames (n + 1) s = .ok (fs, u) ↔
      ∃ t gs, stepFrame s = .ok t ∧ produceFrames n t = .ok (gs, u) ∧ fs = t.frame :: gs := by
  refine ⟨produceFrames_cons, ?_⟩
  rintro ⟨t, gs, ht, hgs, rfl⟩
  simp only [produceFrames, ht, hgs]

/-- `m + n` STEPs complete where `m` STEPs and then `n` STEPs do, with their frames in order. -/
theorem produceFrames_add_ok_iff {m n : Nat} {hs : List Frame} :
    produceFrames (m + n) s = .ok (hs, u) ↔
      ∃ fs t gs, produceFrames m s = .ok (fs, t) ∧ produceFrames n t = .ok (gs, u) ∧
        hs = fs ++ gs := by
  induction m generalizing s hs with
  | zero =>
    rw [Nat.zero_add]
    constructor
    · exact fun h => ⟨[], s, hs, rfl, h, rfl⟩
    · rintro ⟨fs, t, gs, ht, hgs, rfl⟩
      cases ht
      exact hgs
  | succ m ih =>
    rw [Nat.succ_add, produceFrames_succ_ok_iff]
    constructor
    · rintro ⟨v, ks, hv, hks, rfl⟩
      obtain ⟨fs, t, gs, ht, hgs, rfl⟩ := ih.mp hks
      exact ⟨v.frame :: fs, t, gs, produceFrames_succ_ok_iff.mpr ⟨v, fs, hv, ht, rfl⟩, hgs, rfl⟩
    · rintro ⟨fs', t, gs, ht, hgs, rfl⟩
      obtain ⟨v, fs, hv, hfs, rfl⟩ := produceFrames_cons ht
      exact ⟨v, fs ++ gs, hv, ih.mpr ⟨fs, t, gs, hfs, hgs, rfl⟩, rfl⟩

end

/-! ### The answer is not read -/

section
variable (r : HostResult) (s : State)

theorem voice_putResult (c : Fin 16) :
    voice c (s.putResult r) = (voice c s).map (State.putResult r) := by
  have hstep : voiceStep c (s.putResult r) = voiceStep c s := rfl
  rw [voice_eq, voice_eq, hstep]
  cases voiceStep c s <;> rfl

theorem runVoices_putResult (cs : List (Fin 16)) :
    runVoices cs (s.putResult r) = (runVoices cs s).map (State.putResult r) := by
  induction cs generalizing s with
  | nil => rfl
  | cons c cs ih =>
    simp only [runVoices, voice_putResult]
    cases voice c s with
    | error f => rfl
    | ok t => exact ih t

theorem stepFrame_putResult :
    stepFrame (s.putResult r) = (stepFrame s).map (State.putResult r) := by
  simp only [stepFrame, runVoices_putResult]
  cases runVoices channels s <;> rfl

theorem produceFrames_putResult (n : Nat) :
    produceFrames n (s.putResult r) =
      (produceFrames n s).map (Prod.map id (State.putResult r)) := by
  induction n generalizing s with
  | zero => rfl
  | succ n ih =>
    simp only [produceFrames, stepFrame_putResult]
    cases stepFrame s with
    | error f => rfl
    | ok t =>
      simp only [Except.map, ih]
      cases produceFrames n t <;> rfl

/-- PRODUCE overwrites the answer that stands, so it answers as if there were none. -/
theorem exec_produce_putResult (n : BitVec 32) :
    exec (.produce n) (s.putResult r) = exec (.produce n) s := by
  change execProduce n (s.putResult r) = execProduce n s
  simp only [execProduce, State.putResult_mode, produceFrames_putResult]
  cases s.mode with
  | unconstructed => rfl
  | constructed => cases produceFrames n.toNat s <;> rfl

end

end Sys2Proof.Machine
end

section
/-! The obligations of 70_reset_and_hazards: power-on (R350), the commit of a CONSTRUCT (R351), and
PRODUCE in parts (R363). -/

namespace Sys2Proof.Claims

open Sys2Proof.Machine

/-- Settles O29: the STEPs of `a + b` are those of `a` and then those of `b`, and the second PRODUCE
does not read the first one's answer. -/
theorem produceSplitsAnywhere : Obligations.ProduceSplitsAnywhere := by
  intro a b s hab
  have hadd : (a + b).toNat = a.toNat + b.toNat := BitVec.toNat_add_of_lt hab
  refine ⟨fun t' u' hfirst hsecond => ?_, fun v hv => ?_⟩
  · obtain ⟨hmode, fs, t, ht, rfl⟩ := execProduce_cases hfirst
    rw [exec_produce_putResult] at hsecond
    obtain ⟨-, gs, u, hu, rfl⟩ := execProduce_cases hsecond
    have hsum : produceFrames (a + b).toNat s = .ok (fs ++ gs, u) :=
      hadd ▸ produceFrames_add_ok_iff.mpr ⟨fs, t, gs, ht, hu, rfl⟩
    have hwhole := exec_produce_ok hmode hsum
    exact ⟨fs, gs, rfl, rfl, hwhole⟩
  · obtain ⟨hmode, hs, u, hsum, rfl⟩ := execProduce_cases hv
    rw [hadd] at hsum
    obtain ⟨fs, t, gs, ht, hu, -⟩ := produceFrames_add_ok_iff.mp hsum
    have htmode : t.mode = .constructed := (produceFrames_frame ht).1.mode.trans hmode
    exact ⟨_, _, exec_produce_ok hmode ht,
      (exec_produce_putResult _ t b).trans (exec_produce_ok htmode hu)⟩

/-- Settles O24: the stages are those of `buildEngine`, and `State.commit` is the column of R50. -/
theorem constructCommitsEverything : Obligations.ConstructCommitsEverything := by
  intro cfg songIn waveIn drumIn s song wave drum hlegal hcount hsong hwave hdrum hvalid
  have hbuild := (buildEngine_of_stages hsong hwave hdrum).trans (if_pos hvalid)
  refine ⟨_, execConstruct_of_ok hlegal hcount hbuild s, rfl, fun c => ?_⟩
  rw [State.putResult_ch, State.commit_ch]
  exact Vector.getElem_replicate c.isLt

/-- Settles O52: every channel and every instrument is an entry of a constant vector. -/
theorem resetIsUnconstructed : Obligations.ResetIsUnconstructed := by
  have hch (c : Fin 16) : State.reset.ch[c] = Channel.reset := Vector.getElem_replicate c.isLt
  have hinst (c : Fin 16) : State.reset.song.inst[c] = Instrument.empty :=
    Vector.getElem_replicate c.isLt
  exact ⟨rfl, rfl, fun c => ⟨hch c, congrArg Instrument.notes (hinst c)⟩, rfl, rfl, rfl⟩

end Sys2Proof.Claims
end

section
/-! SUPPORT. The bytes of a record and the record determine each other (R110–R117): the encoder
after the decoder, and the lengths that decode. -/

namespace Sys2Proof.Machine

open Sys2Proof.Claims

/-! ### Bytes of numbers -/

section
variable {w : Nat} (hi : BitVec w) (lo b : Byte)

@[simp] theorem byteOf_zero_self : byteOf b 0 = b := BitVec.extractLsb'_eq_self

@[simp] theorem byteOf_zero_append : byteOf (hi ++ lo) 0 = lo :=
  BitVec.extractLsb'_append_eq_right

/-- Byte `k + 1` of a number is byte `k` of what stands above its least significant byte. -/
theorem byteOf_succ_append (k : Nat) : byteOf (hi ++ lo) (k + 1) = byteOf hi k := by
  rw [byteOf, byteOf, BitVec.extractLsb'_append_eq_of_le (by omega), Nat.mul_succ,
    Nat.add_sub_cancel]

end

theorem bytesLe16_le16 (b0 b1 : Byte) : bytesLe16 (le16 b0 b1) = [b0, b1] := by
  simp [bytesLe16, le16, byteOf_succ_append _ _ 0]

theorem bytesLe32_le32 (b0 b1 b2 b3 : Byte) :
    bytesLe32 (le32 b0 b1 b2 b3) = [b0, b1, b2, b3] := by
  simp [bytesLe32, le32, byteOf_succ_append _ _ 0, byteOf_succ_append _ _ 1,
    byteOf_succ_append _ _ 2]

/-- The six bytes of the magic, the most significant first (R112). -/
theorem bytes_magicWord (m0 m1 m2 m3 m4 m5 : Byte) :
    [5, 4, 3, 2, 1, 0].map (byteOf (magicWord m0 m1 m2 m3 m4 m5)) = [m0, m1, m2, m3, m4, m5] := by
  simp [magicWord, byteOf_succ_append _ _ 0, byteOf_succ_append _ _ 1, byteOf_succ_append _ _ 2,
    byteOf_succ_append _ _ 3, byteOf_succ_append _ _ 4]

/-- The big-endian pair (R87, R116). -/
theorem be16_byteOf (x : BitVec 16) : be16 (byteOf x 1) (byteOf x 0) = x := le16_byteOf x

/-! ### What decodes is what was encoded -/

section
variable {bs rest : List Byte}

theorem decodeSongHeader_iff {h : SongHeaderRec} :
    decodeSongHeader bs = some (h, rest) ↔ bs = encodeSongHeader h ++ rest := by
  refine ⟨fun hdec => ?_, fun e => e ▸ decodeSongHeader_encode rest h⟩
  unfold decodeSongHeader at hdec
  split at hdec
  next m0 m1 m2 m3 m4 m5 _ _ _ _ _ _ _ _ _ _ _ _ =>
    cases hdec
    have hmagic := bytes_magicWord m0 m1 m2 m3 m4 m5
    simp only [List.map_cons, List.map_nil, List.cons.injEq] at hmagic
    simp [encodeSongHeader, bytesLe32_le32, hmagic]
  next => cases hdec

theorem decodeInstrumentHeader_iff {h : InstrumentRec} :
    decodeInstrumentHeader bs = some (h, rest) ↔ bs = encodeInstrumentHeader h ++ rest := by
  refine ⟨fun hdec => ?_, fun e => e ▸ decodeInstrumentHeader_encode rest h⟩
  unfold decodeInstrumentHeader at hdec
  split at hdec
  next => cases hdec; simp [encodeInstrumentHeader, bytesLe16_le16]
  next => cases hdec

theorem decodeNote_iff {r : NoteRec} :
    decodeNote bs = some (r, rest) ↔ bs = encodeNote r ++ rest := by
  refine ⟨fun hdec => ?_, fun e => e ▸ decodeNote_encode rest r⟩
  unfold decodeNote at hdec
  split at hdec
  next => cases hdec; simp [encodeNote, bytesLe32_le32]
  next => cases hdec

theorem decodeWaveEntry_iff {samples : Vector Byte 256} :
    decodeWaveEntry bs = some (samples, rest) ↔ bs = samples.toList ++ rest := by
  unfold decodeWaveEntry
  constructor
  · intro hdec
    split at hdec
    next =>
      cases hdec
      exact (List.take_append_drop 256 bs).symm
    next => cases hdec
  · rintro rfl
    have hlen : samples.toList.length = 256 := samples.length_toList
    have htake : (samples.toList ++ rest).take 256 = samples.toList := List.take_left' hlen
    have hdrop : (samples.toList ++ rest).drop 256 = rest := List.drop_left' hlen
    simp only [htake, hdrop, hlen, dite_true]
    rfl

theorem decodeDrumSample_iff {x : BitVec 16} :
    decodeDrumSample bs = some (x, rest) ↔ bs = [byteOf x 1, byteOf x 0] ++ rest := by
  constructor
  · intro hdec
    unfold decodeDrumSample at hdec
    split at hdec
    next => cases hdec; simp [be16, byteOf_succ_append _ _ 0]
    next => cases hdec
  · rintro rfl
    exact congrArg (fun y => some (y, rest)) (be16_byteOf x)

end

/-! ### The decoder -/

/-- What the decoder answers for the record row `sel` from what the row's own decoder gives. -/
def decoded {α : Type} (sel : RecordSel) (f : α → Instr) :
    Option (α × List Byte) → Except DecodeError (Instr × List Byte)
  | some (r, rest) => .ok (f r, rest)
  | none => .error (.truncated sel)

theorem decoded_ok_iff {α : Type} {sel : RecordSel} {f : α → Instr} {o : Option (α × List Byte)}
    {i : Instr} {rest : List Byte} :
    decoded sel f o = .ok (i, rest) ↔ ∃ r, o = some (r, rest) ∧ f r = i := by
  cases o with
  | none => simp [decoded]
  | some r => simp [decoded, Prod.ext_iff, and_comm]

section
variable (bs : List Byte)

theorem decodeRecord_songHeader :
    decodeRecord .songHeader bs = decoded .songHeader .songHeader (decodeSongHeader bs) := by
  rw [decodeRecord]
  cases decodeSongHeader bs <;> rfl

theorem decodeRecord_instrumentHeader (i : Fin 16) :
    decodeRecord (.instrumentHeader i) bs =
      decoded (.instrumentHeader i) (.instrumentHeader i) (decodeInstrumentHeader bs) := by
  rw [decodeRecord]
  cases decodeInstrumentHeader bs <;> rfl

theorem decodeRecord_note (i : Fin 16) :
    decodeRecord (.note i) bs = decoded (.note i) (.note i) (decodeNote bs) := by
  rw [decodeRecord]
  cases decodeNote bs <;> rfl

theorem decodeRecord_waveEntry (w : Fin 100) :
    decodeRecord (.waveEntry w) bs =
      decoded (.waveEntry w) (.waveEntry w) (decodeWaveEntry bs) := by
  rw [decodeRecord]
  cases decodeWaveEntry bs <;> rfl

theorem decodeRecord_drumSample :
    decodeRecord .drumSample bs = decoded .drumSample .drumSample (decodeDrumSample bs) := by
  rw [decodeRecord]
  cases decodeDrumSample bs <;> rfl

end

section
variable {sel : RecordSel} {bs rest : List Byte} {i : Instr}

theorem decodeRecord_encode (hbs : bs = encode i ++ rest) (hsel : i.selector = some sel) :
    decodeRecord sel bs = .ok (i, rest) := by
  cases i with
  | songHeader h =>
    cases hsel
    rw [decodeRecord_songHeader]
    exact decoded_ok_iff.mpr ⟨h, decodeSongHeader_iff.mpr hbs, rfl⟩
  | instrumentHeader k h =>
    cases hsel
    rw [decodeRecord_instrumentHeader]
    exact decoded_ok_iff.mpr ⟨h, decodeInstrumentHeader_iff.mpr hbs, rfl⟩
  | note k r =>
    cases hsel
    rw [decodeRecord_note]
    exact decoded_ok_iff.mpr ⟨r, decodeNote_iff.mpr hbs, rfl⟩
  | waveEntry w samples =>
    cases hsel
    rw [decodeRecord_waveEntry]
    exact decoded_ok_iff.mpr ⟨samples, decodeWaveEntry_iff.mpr hbs, rfl⟩
  | drumSample x =>
    cases hsel
    rw [decodeRecord_drumSample]
    exact decoded_ok_iff.mpr ⟨x, decodeDrumSample_iff.mpr hbs, rfl⟩
  | _ => cases hsel

theorem encode_of_decodeRecord (h : decodeRecord sel bs = .ok (i, rest)) :
    bs = encode i ++ rest ∧ i.selector = some sel := by
  cases sel with
  | songHeader =>
    obtain ⟨r, hr, rfl⟩ := decoded_ok_iff.mp (decodeRecord_songHeader bs ▸ h)
    exact ⟨decodeSongHeader_iff.mp hr, rfl⟩
  | instrumentHeader k =>
    obtain ⟨r, hr, rfl⟩ := decoded_ok_iff.mp (decodeRecord_instrumentHeader bs k ▸ h)
    exact ⟨decodeInstrumentHeader_iff.mp hr, rfl⟩
  | note k =>
    obtain ⟨r, hr, rfl⟩ := decoded_ok_iff.mp (decodeRecord_note bs k ▸ h)
    exact ⟨decodeNote_iff.mp hr, rfl⟩
  | waveEntry w =>
    obtain ⟨r, hr, rfl⟩ := decoded_ok_iff.mp (decodeRecord_waveEntry bs w ▸ h)
    exact ⟨decodeWaveEntry_iff.mp hr, rfl⟩
  | drumSample =>
    obtain ⟨r, hr, rfl⟩ := decoded_ok_iff.mp (decodeRecord_drumSample bs ▸ h)
    exact ⟨decodeDrumSample_iff.mp hr, rfl⟩

theorem wellFormed_of_selector (h : i.selector = some sel) : i.wellFormed = true := by
  cases i with
  | songHeader | instrumentHeader | note | waveEntry | drumSample => rfl
  | _ => cases h

end

/-! ### The lengths that decode -/

section
variable {sel : RecordSel} {bs : List Byte}

theorem decodeDrumSample_of_lt (h : bs.length < 2) : decodeDrumSample bs = none := by
  match bs, h with
  | [], _ => rfl
  | [_], _ => rfl

theorem decodeDrumSample_of_le (h : 2 ≤ bs.length) :
    ∃ x, decodeDrumSample bs = some (x, bs.drop 2) := by
  match bs, h with
  | _ :: _ :: _, _ => exact ⟨_, rfl⟩

theorem decodeRecord_of_lt (h : bs.length < sel.width) :
    decodeRecord sel bs = .error (.truncated sel) := by
  cases sel with
  | songHeader => rw [decodeRecord_songHeader, decodeSongHeader_of_lt h, decoded]
  | instrumentHeader => rw [decodeRecord_instrumentHeader, decodeInstrumentHeader_of_lt h, decoded]
  | note => rw [decodeRecord_note, decodeNote_of_lt h, decoded]
  | waveEntry => rw [decodeRecord_waveEntry, decodeWaveEntry_of_lt h, decoded]
  | drumSample => rw [decodeRecord_drumSample, decodeDrumSample_of_lt h, decoded]

theorem decodeRecord_of_le (h : sel.width ≤ bs.length) :
    ∃ i, decodeRecord sel bs = .ok (i, bs.drop sel.width) := by
  cases sel with
  | songHeader =>
    obtain ⟨r, hr, -⟩ := decodeSongHeader_of_le h
    exact ⟨_, (decodeRecord_songHeader bs).trans (decoded_ok_iff.mpr ⟨r, hr, rfl⟩)⟩
  | instrumentHeader =>
    exact ⟨_, (decodeRecord_instrumentHeader bs _).trans
      (decoded_ok_iff.mpr ⟨_, decodeInstrumentHeader_of_le h, rfl⟩)⟩
  | note =>
    obtain ⟨r, hr⟩ := decodeNote_of_le h
    exact ⟨_, (decodeRecord_note bs _).trans (decoded_ok_iff.mpr ⟨r, hr, rfl⟩)⟩
  | waveEntry =>
    obtain ⟨samples, hsamples, -⟩ := decodeWaveEntry_of_le h
    exact ⟨_, (decodeRecord_waveEntry bs _).trans (decoded_ok_iff.mpr ⟨samples, hsamples, rfl⟩)⟩
  | drumSample =>
    obtain ⟨x, hx⟩ := decodeDrumSample_of_le h
    exact ⟨_, (decodeRecord_drumSample bs).trans (decoded_ok_iff.mpr ⟨x, hx, rfl⟩)⟩

/-- The bytes suffice where the decoder answers a record. -/
theorem width_le_of_decodeRecord {r : Instr × List Byte} (h : decodeRecord sel bs = .ok r) :
    sel.width ≤ bs.length := by
  by_contra hlt
  cases (decodeRecord_of_lt (Nat.lt_of_not_le hlt)).symm.trans h

end

end Sys2Proof.Machine
end

section
/-! The obligations of 30_encoding: the decoder and the encoder of the five record rows
(R110–R117). -/

namespace Sys2Proof.Claims

open Sys2Proof.Machine

/-- Settles O2: each row's decoder reads back what its encoder wrote. -/
theorem decodeOfEncode : Obligations.DecodeOfEncode :=
  fun _ _ _ hsel => decodeRecord_encode rfl hsel

/-- Settles O3: each row's encoder writes back what its decoder read. -/
theorem encodeOfDecode : Obligations.EncodeOfDecode := by
  intro sel bs rest i h
  obtain ⟨hbs, hsel⟩ := encode_of_decodeRecord h
  exact ⟨hbs, hsel, wellFormed_of_selector hsel⟩

/-- Settles O4: the length alone decides whether a record decodes. -/
theorem decodeRefusesShortBytes : Obligations.DecodeRefusesShortBytes := by
  refine fun sel bs => ⟨⟨fun h => ?_, decodeRecord_of_lt⟩, decodeRecord_of_le⟩
  by_contra hle
  obtain ⟨i, hi⟩ := decodeRecord_of_le (Nat.le_of_not_lt hle)
  cases hi.symm.trans h

/-- Settles O1: the decoder evaluated on the words. -/
theorem specWordsDecode : Obligations.SpecWordsDecode := by
  unfold Obligations.SpecWordsDecode
  decide

end Sys2Proof.Claims
end

section
/-! SUPPORT. What a CONSTRUCT commits is good (R32, R35–R38, R83): what PARSE gives every
instrument, and what the bank decoders give the banks. -/

namespace Sys2Proof.Machine

open Sys2Proof.Claims

/-! ### The song -/

/-- An instrument as the rules want it: as many notes as counted (R35), sorted (R185), with ordered
windows (R36). -/
structure Instrument.Good (inst : Instrument) : Prop where
  count : inst.notes.length = inst.noteCount.toNat
  sorted : inst.notes.Pairwise Note.StartsBy
  windows : ∀ n ∈ inst.notes, n.startSample ≤ n.endSample

/-- The window of a decoded note is ordered, since its end is at a later beat (R180). -/
theorem noteOf_window (cfg : Cfg) (waitMs : Byte) (voiceId : BitVec 16) (beat : BitVec 32)
    (f : Prev) : (noteOf cfg waitMs voiceId beat f).startSample ≤
      (noteOf cfg waitMs voiceId beat f).endSample :=
  beatToSample_mono cfg waitMs (Nat.le_add_right _ _)

section
variable {cfg : Cfg}

theorem parseNotes_good {waitMs : Byte} {voiceId : BitVec 16} {n : Nat} {prev : Prev}
    {bs rest : List Byte} {notes : List Note}
    (h : parseNotes cfg waitMs voiceId n prev bs = .ok (notes, rest)) :
    notes.length = n ∧ ∀ m ∈ notes, m.startSample ≤ m.endSample := by
  induction n generalizing prev bs notes rest with
  | zero => cases h; exact ⟨rfl, by simp⟩
  | succ n ih =>
    unfold parseNotes at h
    split at h
    next => cases h
    next r bs' _ =>
      dsimp only at h
      split at h
      next ms rest' hms =>
        cases h
        obtain ⟨hlen, hwindows⟩ := ih hms
        exact ⟨congrArg Nat.succ hlen,
          List.forall_mem_cons.mpr ⟨noteOf_window _ _ _ _ _, hwindows⟩⟩
      next => cases h

/-- An instrument that is given the sorted notes of its stream is good. -/
theorem good_withNotes {inst : Instrument} {raw : List Note}
    (hlen : raw.length = inst.noteCount.toNat)
    (hwindows : ∀ n ∈ raw, n.startSample ≤ n.endSample) :
    (inst.withNotes (sortNotes raw)).Good where
  count := (sortNotes_perm raw).length_eq.trans hlen
  sorted := sortNotes_pairwise raw
  windows n hn := hwindows n ((sortNotes_perm raw).mem_iff.mp hn)

/-- A note stream makes its instrument good and leaves the others as they are. -/
theorem parseStreams_good {is : List (Fin 16)} {song song' : Song} {bs rest : List Byte}
    (h : parseStreams cfg is song bs = .ok (song', rest)) {c : Fin 16}
    (hc : c ∈ is ∨ song.inst[c].Good) : song'.inst[c].Good := by
  induction is generalizing song bs with
  | nil => cases h; exact hc.resolve_left List.not_mem_nil
  | cons i is ih =>
    unfold parseStreams at h
    split at h
    next => cases h
    next raw rest' hraw =>
      refine ih h ?_
      rw [setNotes_eq]
      obtain rfl | hci := eq_or_ne c i
      · obtain ⟨hlen, hwindows⟩ := parseNotes_good hraw
        right
        rw [Song.updateInst_same]
        exact good_withNotes hlen hwindows
      · rw [Song.updateInst_other _ _ hci]
        exact hc.imp_left fun hmem => (List.mem_cons.mp hmem).resolve_left hci

/-- PARSE leaves every instrument good. -/
theorem parse_good {songIn : List Byte} {song : Song} (h : parse cfg songIn = .ok song)
    (c : Fin 16) : song.inst[c].Good := by
  unfold parse at h
  split at h
  next => cases h
  next song₀ bs₀ _ =>
    split at h
    next => cases h
    next song₁ bs₁ _ =>
      split at h
      next => cases h
      next song₂ rest hstreams =>
        cases h
        exact parseStreams_good hstreams (.inl (mem_channels c))

end

/-! ### The banks -/

/-- WAVE_DECODE writes every entry, each with decoded bytes (R37, R220). -/
theorem decodeWaveBank_values {waveIn : List Byte} {wave : WaveBank}
    (h : decodeWaveBank waveIn = .ok wave) (w : Fin 100) (j : Fin 256) :
    ∃ b : Byte, wave[w][j] = waveSample b := by
  have hlen : 25600 ≤ waveIn.length := by
    by_contra hlt
    cases (decodeWaveBank_of_lt (Nat.lt_of_not_le hlt)).symm.trans h
  obtain ⟨bank, hbank, hread⟩ := (waveBankLayout waveIn).2 hlen
  obtain rfl : bank = wave := Except.ok.inj (hbank.symm.trans h)
  exact ⟨_, hread w j⟩

/-- A drum sequence as the rules want it: of even length, of decoded samples (R38, R222). -/
structure GoodDrum (d : List F64) : Prop where
  even : d.length % 2 = 0
  values : ∀ v ∈ d, ∃ x : BitVec 16, v = drumValue x

theorem GoodDrum.drumPair_append {d : List F64} (h : GoodDrum d) (x : BitVec 16) :
    GoodDrum (drumPair x ++ d) where
  even := by
    have := h.even
    simp only [drumPair, List.length_append, List.length_cons, List.length_nil]
    omega
  values v hv := by
    obtain hv | hv := List.mem_append.mp hv
    · exact ⟨x, by simpa [drumPair] using hv⟩
    · exact h.values v hv

theorem decodeDrum_good {bs : List Byte} {d : List F64} (h : decodeDrum bs = .ok d) :
    GoodDrum d := by
  induction bs using decodeDrum.induct generalizing d with
  | case1 => cases h; exact ⟨rfl, by simp⟩
  | case2 => cases h
  | case3 b0 b1 rest d' hd' ih =>
    simp only [decodeDrum, hd'] at h
    cases h
    exact (ih hd').drumPair_append _
  | case4 b0 b1 rest e he => simp [decodeDrum, he] at h

/-- DRUM_DECODE gives one good sequence per buffer (R224). -/
theorem decodeDrums_good {bufs : List (List Byte)} {bank : List (List F64)}
    (h : decodeDrums bufs = .ok bank) :
    bank.length = bufs.length ∧ ∀ d ∈ bank, GoodDrum d := by
  induction bufs generalizing bank with
  | nil => cases h; exact ⟨rfl, by simp⟩
  | cons buf bufs ih =>
    unfold decodeDrums at h
    split at h
    next => cases h
    next d hd =>
      split at h
      next ds hds =>
        cases h
        obtain ⟨hlen, hgood⟩ := ih hds
        exact ⟨congrArg Nat.succ hlen, List.forall_mem_cons.mpr ⟨decodeDrum_good hd, hgood⟩⟩
      next => cases h

end Sys2Proof.Machine
end

section
/-! SUPPORT. The invariant of a state by its parts: the stores, which CONSTRUCT alone writes, the
channel registers, which the voices write, and the cursor, which the reader moves (R30, R44,
R48). -/

namespace Sys2Proof.Machine

open Sys2Proof.Claims

/-! ### The channel registers -/

/-- What the invariant says of the registers of channel `c`, for its instrument (R40, R41, R247). -/
structure Channel.Good (c : Fin 16) (inst : Instrument) (ch : Channel) : Prop where
  noteIndex : ch.noteIndex ≤ inst.noteCount.toNat
  shortNote : isMelodic c = true → inst.shortNoteFlag = true → ch.samplesPlayed ≤ 257
  percOffset : isMelodic c = false → ch.wavetableOffset = 0#64

section
variable {c : Fin 16} {inst : Instrument} {ch : Channel}

theorem Channel.good_reset : Channel.reset.Good c inst :=
  ⟨Nat.zero_le _, fun _ _ => Nat.zero_le _, fun _ => rfl⟩

/-- The registers of power-on and of a commit are good for every instrument (R50, R351). -/
theorem Channel.good_replicate_reset : (Vector.replicate 16 Channel.reset)[c].Good c inst := by
  rw [show (Vector.replicate 16 Channel.reset)[c] = Channel.reset from
    Vector.getElem_replicate c.isLt]
  exact good_reset

/-- The end of a current note keeps registers good (R255). -/
theorem Channel.Good.endIf (h : ch.Good c inst) (hlt : ch.noteIndex < inst.noteCount.toNat)
    (p : Nat) (n : Note) : (ch.endIf p n).Good c inst := by
  obtain he | he := ch.endIf_cases p n <;> rw [he]
  · exact ⟨hlt, fun _ _ => Nat.zero_le _, fun _ => rfl⟩
  · exact h

/-- The gate lets a short note sound from at most 256 samples on (R247). -/
theorem Channel.Good.tone (h : ch.Good c inst) (hc : isMelodic c = true)
    (hgate : gateOpen inst ch = true) (n : Note) : (ch.tone n).Good c inst where
  noteIndex := h.noteIndex
  shortNote _ hflag :=
    Nat.succ_le_succ ((gateOpen_iff.mp hgate).resolve_left (by simp [hflag]))
  percOffset hperc := absurd (hc.symm.trans hperc) (by decide)

/-- A drum sample counts itself, and leaves the offset alone (R256). -/
theorem Channel.Good.drumSample (h : ch.Good c inst) (hc : isMelodic c = false) :
    { ch with samplesPlayed := ch.samplesPlayed + 1 }.Good c inst where
  noteIndex := h.noteIndex
  shortNote hmel := absurd (hc.symm.trans hmel) (by decide)
  percOffset := h.percOffset

theorem melodicStep_good {cfg : Cfg} {wave : WaveBank} {p : Nat} {out : Contribution}
    {ch' : Channel} (hc : isMelodic c = true) (h : ch.Good c inst)
    (hstep : melodicStep cfg wave inst p ch = .ok (out, ch')) : ch'.Good c inst := by
  obtain ⟨-, rfl, -⟩ | ⟨n, hn, -, -, -, rfl⟩ | ⟨n, x, hn, -, hgate, -, -, rfl⟩ :=
    melodicStep_cases hstep
  · exact h
  · exact h.endIf (currentNote_some hn).1 p n
  · exact (h.tone hc hgate n).endIf (currentNote_some hn).1 p n

theorem percStep_good {cfg : Cfg} {drum : List (List F64)} {p : Nat} {out : Contribution}
    {ch' : Channel} (hc : isMelodic c = false) (h : ch.Good c inst)
    (hstep : percStep cfg drum inst p ch = (out, ch')) : ch'.Good c inst := by
  obtain ⟨-, rfl, -⟩ | ⟨n, hn, -, -, -, rfl⟩ | ⟨n, x, hn, -, -, -, rfl⟩ := percStep_cases hstep
  · exact h
  · exact h.endIf (currentNote_some hn).1 p n
  · exact (h.drumSample hc).endIf (currentNote_some hn).1 p n

end

section
variable {c : Fin 16} {s t : State}

/-- A voice keeps the registers of its channel good (R246, R256, R257). -/
theorem voiceStep_good {out : Contribution} {ch : Channel}
    (h : s.ch[c].Good c s.song.inst[c]) (hstep : voiceStep c s = .ok (out, ch)) :
    ch.Good c s.song.inst[c] := by
  cases hc : isMelodic c with
  | true => exact melodicStep_good hc h (voiceStep_melodic hc ▸ hstep)
  | false =>
    cases hmode : s.cfg.percMode with
    | stream =>
      rw [voiceStep_stream hc hmode] at hstep
      exact percStep_good hc h (Except.ok.inj hstep)
    | silent =>
      rw [voiceStep_silent hc hmode] at hstep
      cases hstep
      exact h

theorem ok_of_outcomeOf {r : Except Fault State} (h : outcomeOf r = .next t) : r = .ok t := by
  cases r with
  | error _ => cases h
  | ok _ => cases h; rfl

theorem voice_good (hgood : s.ch[c].Good c s.song.inst[c]) (h : outcomeOf (voice c s) = .next t) :
    ∃ out ch, t = s.putVoice c out ch ∧ ch.Good c s.song.inst[c] := by
  obtain ⟨out, ch, hstep, rfl⟩ := voice_ok (ok_of_outcomeOf h)
  exact ⟨out, ch, rfl, voiceStep_good hgood hstep⟩

/-- A voice operation that completes writes good registers to its own channel, from good ones. On
a channel of the other kind it is refused (log 2). -/
theorem exec_voice_good {i : Instr} (hi : IsVoiceOf c i) (hgood : s.ch[c].Good c s.song.inst[c])
    (h : exec i s = .next t) :
    ∃ out ch, t = s.putVoice c out ch ∧ ch.Good c s.song.inst[c] := by
  obtain ⟨hrefused, -⟩ := voiceStopsByName
  obtain ⟨hmelodic, hpercussion⟩ := hrefused c s
  cases hc : isMelodic c with
  | true =>
    obtain ⟨hstream, hsilent⟩ := hpercussion (isMelodic_iff.mp hc)
    obtain rfl | rfl | rfl := hi
    · exact voice_good hgood (exec_melodicVoice hc ▸ h)
    · cases hstream.symm.trans h
    · cases hsilent.symm.trans h
  | false =>
    obtain rfl | rfl | rfl := hi
    · cases (hmelodic (isMelodic_eq_false_iff.mp hc)).symm.trans h
    · exact voice_good hgood (exec_percVoiceStream hc ▸ h)
    · obtain rfl := Host.Outcome.next.inj ((exec_percVoiceSilent hc).symm.trans h)
      exact ⟨_, _, rfl, hgood⟩

end

/-! ### The invariant by its parts -/

theorem State.Inv.channel {s : State} (h : s.Inv) (c : Fin 16) : s.ch[c].Good c s.song.inst[c] :=
  ⟨h.noteIndex c, h.shortNote c, h.percOffset c⟩

/-- With the stores as they were, good channel registers are all that is left to say. -/
theorem State.Inv.of_channels {s t : State} (h : s.Inv) (hsame : SameStores s t)
    (hch : ∀ c : Fin 16, t.ch[c].Good c s.song.inst[c]) : t.Inv := by
  rw [hsame.eq_with]
  exact { h with
    noteIndex := fun c => (hch c).noteIndex
    shortNote := fun c => (hch c).shortNote
    percOffset := fun c => (hch c).percOffset }

/-- With the stores and the registers as they were, the cursor is all that is left to say. -/
theorem State.Inv.putAsm {s : State} (h : s.Inv) {a : Assembly}
    (ha : a.rd.cur ≤ a.rd.buf.length) : (s.putAsm a).Inv :=
  { h with cursor := ha }

theorem State.Inv.dequeue {s : State} (h : s.Inv) (rest : List Request) : (s.dequeue rest).Inv :=
  { h with }

/-! ### The cursor -/

section
variable {s t : State} {i : Instr}

/-- A record that has been fetched does not move the reader any more. -/
theorem exec_record_rd (hi : i.selector.isSome) (h : exec i s = .next t) : t.asm.rd = s.asm.rd := by
  cases i with
  | songHeader r =>
    change execSongHeader r s = .next t at h
    unfold execSongHeader at h
    split at h <;> cases h <;> rfl
  | instrumentHeader | note | waveEntry | drumSample => cases h; rfl
  | _ => cases hi

/-- A record and a reader primitive keep the cursor inside the buffer (R150). -/
theorem exec_cursor (hi : i.selector.isSome ∨ (readerWidth i).isSome)
    (hcur : s.asm.rd.cur ≤ s.asm.rd.buf.length) (h : exec i s = .next t) :
    t.asm.rd.cur ≤ t.asm.rd.buf.length := by
  obtain hi | hi := hi
  · rwa [exec_record_rd hi h]
  · obtain ⟨w, hw⟩ := Option.isSome_iff_exists.mp hi
    obtain rfl := Host.Outcome.next.inj ((exec_reader hw).symm.trans h)
    exact Assembly.readBytes_cursor w _ s.asm hcur

end

/-! ### Every operation keeps the invariant -/

section
variable {s t : State}

theorem mixClamp_sameStores (s : State) : SameStores s (mixClamp s) :=
  ⟨rfl, rfl, rfl, rfl, rfl, rfl, rfl, rfl⟩

theorem stepFrame_keeps_inv (hinv : s.Inv) (h : stepFrame s = .ok t) : t.Inv :=
  hinv.of_channels (stepFrame_frame h).1 fun c =>
    voiceStep_good (hinv.channel c) (stepFrame_voiceStep h c)

/-- A voice operation writes its own channel, and the others keep their registers (R39). -/
theorem State.Inv.putVoice (hinv : s.Inv) {c : Fin 16} {ch : Channel}
    (hch : ch.Good c s.song.inst[c]) (out : Contribution) : (s.putVoice c out ch).Inv :=
  hinv.of_channels (putVoice_sameStores c out ch s) fun d => by
    obtain rfl | hne := eq_or_ne c d
    · rwa [State.putVoice_ch_same]
    · rw [State.putVoice_ch_other s c d out ch hne]
      exact hinv.channel d

/-- The commit of a CONSTRUCT whose stages succeed makes every part good (R240, R351). -/
theorem commit_inv {cfg : Cfg} {songIn waveIn : List Byte} {drumIn : List (List Byte)}
    {song : Song} {wave : WaveBank} {drum : List (List F64)}
    (hcur : s.asm.rd.cur ≤ s.asm.rd.buf.length) (hlegal : cfgLegal cfg = true)
    (hcount : drumIn.length = cfg.numDrums)
    (h : buildEngine cfg songIn waveIn drumIn = .ok (song, wave, drum)) :
    (s.commit cfg song wave drum).Inv := by
  obtain ⟨hsong, hwave, hdrum, hvalid⟩ := buildEngine_ok h
  obtain ⟨hdrums, hgood⟩ := decodeDrums_good hdrum
  have hch (c : Fin 16) : (s.commit cfg song wave drum).ch[c].Good c song.inst[c] :=
    Channel.good_replicate_reset
  exact {
    cfgLegal := hlegal
    counts := fun c => (parse_good hsong c).count
    sorted := fun c => (parse_good hsong c).sorted
    windows := fun c => (parse_good hsong c).windows
    validated := hvalid
    waveValues := decodeWaveBank_values hwave
    drumCount := hdrums.trans hcount
    drumEven := fun d hd => (hgood d hd).even
    drumValues := fun d hd => (hgood d hd).values
    noteIndex := fun c => (hch c).noteIndex
    shortNote := fun c => (hch c).shortNote
    percOffset := fun c => (hch c).percOffset
    cursor := hcur }

theorem execConstruct_keeps_inv {cfg : Cfg} {songIn waveIn : List Byte}
    {drumIn : List (List Byte)} (hinv : s.Inv)
    (h : execConstruct cfg songIn waveIn drumIn s = .next t) : t.Inv := by
  obtain ⟨-, e⟩ | ⟨-, -, e⟩ | ⟨-, -, err, -, e⟩ | ⟨hlegal, hcount, song, wave, drum, hbuild, e⟩ :=
    execConstruct_cases cfg songIn waveIn drumIn s <;> rw [e] at h <;> cases h
  · exact { hinv with }
  · exact { commit_inv hinv.cursor hlegal hcount hbuild with }

/-- Every operation that completes keeps the invariant, by what it can write. -/
theorem exec_keeps_inv {i : Instr} (hinv : s.Inv) (h : exec i s = .next t) : t.Inv := by
  cases exec_writes h with
  | assembly hi a => exact hinv.putAsm (exec_cursor hi hinv.cursor h)
  | @voice c _ _ hi hwrites =>
    obtain ⟨out, ch, rfl, hch⟩ := exec_voice_good hi (hinv.channel c) h
    exact hinv.putVoice hch out
  | mix => exact hinv.of_channels (mixClamp_sameStores s) hinv.channel
  | step hstep => exact stepFrame_keeps_inv hinv hstep
  | produce hmode hframes =>
    obtain ⟨ht, -⟩ := produceFrames_invariant (P := State.Inv) (Q := fun _ => True)
      (fun _ _ hs hstep => ⟨stepFrame_keeps_inv hs hstep, trivial⟩) hinv hframes
    exact { ht with }
  | failed | constructed => exact execConstruct_keeps_inv hinv h

end

/-! ### Power-on -/

theorem waveSample_zero : waveSample 0#8 = 0#64 := by decide +kernel

theorem reset_channel_good (c : Fin 16) : State.reset.ch[c].Good c State.reset.song.inst[c] :=
  Channel.good_replicate_reset

/-- At power-on no instrument has a note (log 3). -/
theorem reset_inst_good (c : Fin 16) : State.reset.song.inst[c].Good := by
  have hinst : State.reset.song.inst[c] = Instrument.empty := Vector.getElem_replicate c.isLt
  rw [hinst]
  exact ⟨rfl, List.Pairwise.nil, fun _ hn => absurd hn List.not_mem_nil⟩

theorem reset_inv : State.reset.Inv where
  cfgLegal := by decide
  counts c := (reset_inst_good c).count
  sorted c := (reset_inst_good c).sorted
  windows c := (reset_inst_good c).windows
  validated := by decide
  waveValues w j := ⟨0#8, by
    rw [waveSample_zero]
    simp [State.reset, WaveBank.empty]⟩
  drumCount := rfl
  drumEven _ hd := absurd hd List.not_mem_nil
  drumValues _ hd := absurd hd List.not_mem_nil
  noteIndex c := (reset_channel_good c).noteIndex
  shortNote c := (reset_channel_good c).shortNote
  percOffset c := (reset_channel_good c).percOffset
  cursor := Nat.le_refl 0

end Sys2Proof.Machine
end

section
/-! SUPPORT. What a step does with the oldest request (R325, log 1), and when the fetch of a record
gives it or its error (R186, R314). -/

namespace Sys2Proof.Machine

open Sys2Proof.Claims

section
variable {s : State} {sel : RecordSel}

theorem fetchRecord_of_ok {a : Assembly} {i : Instr} {rest : List Byte}
    (h : decodeRecord sel a.rd.rest = .ok (i, rest)) :
    fetchRecord sel a = .ok (i, { a with rd := a.rd.advance sel.width }) := by
  simp only [fetchRecord, h]

theorem fetchRecord_of_lt {a : Assembly} (h : a.rd.rest.length < sel.width) :
    fetchRecord sel a = .error (truncationError a.cfg a.rd.rest sel) := by
  simp only [fetchRecord, decodeRecord_of_lt h]

variable {more : List Request}

theorem step_idle (h : s.pending = []) : step s = .next s := by
  simp only [step, h]

theorem step_call {i : Instr} (h : s.pending = .call i :: more) :
    step s = exec i (s.dequeue more) := by
  simp only [step, h]

theorem step_record {i : Instr} {a : Assembly} (h : s.pending = .record sel :: more)
    (hfetch : fetchRecord sel s.asm = .ok (i, a)) :
    step s = exec i ((s.dequeue more).putAsm a) := by
  simp only [step, h, hfetch]

theorem step_record_error {e : Err} (h : s.pending = .record sel :: more)
    (hfetch : fetchRecord sel s.asm = .error e) :
    step s = .next ((s.dequeue more).putAsm (s.asm.raise e)) := by
  simp only [step, h, hfetch]

/-- A record that is fetched leaves the cursor behind it, inside the buffer (R150). -/
theorem fetchRecord_cursor {a a' : Assembly} {i : Instr} (hcur : a.rd.cur ≤ a.rd.buf.length)
    (h : fetchRecord sel a = .ok (i, a')) : a'.rd.cur ≤ a'.rd.buf.length := by
  obtain ⟨j, rest, hdec, e⟩ | ⟨-, e⟩ := fetchRecord_cases h
  · cases e
    have hwidth := width_le_of_decodeRecord hdec
    rw [Reader.rest, List.length_drop] at hwidth
    simp only [Reader.advance_cur, Reader.advance_buf]
    omega
  · cases e

/-- Every step keeps the invariant. -/
theorem step_keeps_inv {t : State} (hinv : s.Inv) (h : step s = .next t) : t.Inv := by
  cases hpending : s.pending with
  | nil =>
    obtain rfl := Host.Outcome.next.inj ((step_idle hpending).symm.trans h)
    exact hinv
  | cons request more =>
    have hqueue := hinv.dequeue more
    cases request with
    | call i => exact exec_keeps_inv hqueue ((step_call hpending).symm.trans h)
    | record sel =>
      cases hfetch : fetchRecord sel s.asm with
      | ok r =>
        have hcur := fetchRecord_cursor hinv.cursor hfetch
        exact exec_keeps_inv (hqueue.putAsm hcur) ((step_record hpending hfetch).symm.trans h)
      | error e =>
        obtain rfl := Host.Outcome.next.inj ((step_record_error hpending hfetch).symm.trans h)
        exact hqueue.putAsm hinv.cursor

/-- The error of a song header that the buffer ends inside: a rejected magic wins (R314). -/
theorem truncationError_songHeader (cfg : Cfg) (bs : List Byte) :
    truncationError cfg bs .songHeader =
      if 6 ≤ bs.length ∧ magicOk cfg (magicAt bs) = false then .invalidFormat
      else .truncatedInput := by
  have hrefused : magicRefused cfg bs = true ↔
      6 ≤ bs.length ∧ magicOk cfg (magicAt bs) = false := by
    obtain hlt | hle := Nat.lt_or_ge bs.length 6
    · simp [magicRefused_of_lt cfg hlt, Nat.not_le.mpr hlt]
    · simp [magicRefused_of_le cfg hle, hle]
  simp only [truncationError, hrefused]

end

/-! ### What the interface refuses -/

theorem all_toList_iff {α : Type} {n : Nat} (v : Vector α n) (f : α → Bool) :
    v.toList.all f = true ↔ ∀ k : Fin n, f v[k] = true := by
  rw [Vector.all_toList, Vector.all_eq_true, Fin.forall_iff]
  rfl

/-- The legal values of the configuration, register by register (R32). -/
theorem cfgLegal_iff (cfg : Cfg) : cfgLegal cfg = true ↔
    1 ≤ cfg.sampleRate ∧ cfg.sampleRate < 2 ^ 32 ∧
      (∀ k : Fin 12, fIsFinite cfg.freqTable[k] = true) ∧
      (∀ o : Fin 8, fIsFinite cfg.octRepeat[o] = true ∧ fIsZero cfg.octRepeat[o] = false) ∧
      (∀ o : Fin 8, fIsFinite cfg.octAdvance[o] = true) ∧ cfg.numDrums ≤ 256 := by
  simp only [cfgLegal, Bool.and_eq_true, decide_eq_true_iff, all_toList_iff, Bool.not_eq_true',
    and_assoc]

end Sys2Proof.Machine
end

section
/-! The obligations on the invariant (10_state, 20_memory, 43_playback_engine) and on a step
(30_encoding, 60_exceptions). -/

namespace Sys2Proof.Claims

open Sys2Proof.Machine

/-- Settles O54: a request taken and a record fetched keep the invariant, and so does every
operation, by what it can write. -/
theorem everyStepKeepsTheInvariant : Obligations.EveryStepKeepsTheInvariant :=
  fun _ _ hinv h => step_keeps_inv hinv h

/-- Settles O53: nothing at power-on has a note, and every wave entry is the decoded byte 0
(logs 3 and 4). -/
theorem invariantAtReset : Obligations.InvariantAtReset := reset_inv

/-- Settles O6: the three forms of the queue. -/
theorem stepRunsTheDecodedOperation : Obligations.StepRunsTheDecodedOperation :=
  ⟨fun _ _ _ h => step_call h, fun _ _ _ _ _ h hdec => step_record h (fetchRecord_of_ok hdec),
    fun _ h => step_idle h⟩

/-- Settles O7: the bytes do not decode, so the fetch gives the record's own error. -/
theorem stepRaisesOnAShortRecord : Obligations.StepRaisesOnAShortRecord := by
  intro s sel more hpending hlt
  rw [step_record_error hpending (fetchRecord_of_lt hlt)]
  cases sel with
  | songHeader => rw [truncationError_songHeader]; rfl
  | instrumentHeader | note | waveEntry | drumSample => rfl

/-- Settles O27: the refusals come before any stage runs. -/
theorem requestsOutsideTheInterfaceAreRefused :
    Obligations.RequestsOutsideTheInterfaceAreRefused := by
  refine ⟨fun n s hmode => ?_, fun cfg songIn waveIn drumIn s hbad => ?_,
    fun cfg songIn waveIn drumIn s hlegal hcount => ?_⟩
  · change execProduce n s = _
    simp only [execProduce, hmode]
  · exact if_neg (mt (cfgLegal_iff cfg).mp hbad)
  · exact (if_pos hlegal).trans (if_neg hcount)

end Sys2Proof.Claims
end

section
/-! SUPPORT. A record read by the reader primitives, one after another (R152–R158): the bytes of
the record are those of its fields, and each primitive returns its field's value. -/

namespace Sys2Proof.Machine

open Sys2Proof.Claims

/-! ### Reads in order -/

/-- A reader primitive, the bytes it is to read, and the value it is to return for them. -/
structure FieldRead where
  op : Instr
  bytes : List Byte
  value : ReadValue

/-- The primitive reads that many bytes, at least one, and returns the value for them. -/
structure FieldRead.Fits (f : FieldRead) : Prop where
  width : readerWidth f.op = some f.bytes.length
  nonempty : f.bytes ≠ []
  value : readerValue f.op f.bytes = f.value

section
variable {s : State}

theorem readDone_rest (v : ReadValue) {bs rest : List Byte} (h : s.asm.rd.rest = bs ++ rest) :
    (readDone s bs.length v).asm.rd.rest = rest := by
  change s.asm.rd.buf.drop (s.asm.rd.cur + bs.length) = rest
  rw [← List.drop_drop]
  exact (congrArg (List.drop bs.length) h).trans List.drop_left

theorem readDone_readDone (s : State) (m n : Nat) (v w : ReadValue) :
    readDone (readDone s m v) n w = readDone s (m + n) w := by
  simp only [readDone, Nat.add_assoc]

theorem exec_fieldRead {f : FieldRead} (hf : f.Fits) {rest : List Byte}
    (h : s.asm.rd.rest = f.bytes ++ rest) :
    exec f.op s = .next (readDone s f.bytes.length f.value) := by
  obtain ⟨hwidth, hne, hvalue⟩ := hf
  obtain ⟨b, bs, hbs⟩ := List.exists_cons_of_ne_nil hne
  rw [← hvalue]
  rw [hbs] at hwidth h ⊢
  exact exec_reader_of_drop hwidth h

theorem runReads_cons {i : Instr} {n : Nat} {v : ReadValue} (is : List Instr)
    (h : exec i s = .next (readDone s n v)) :
    runReads (i :: is) s = (runReads is (readDone s n v)).map (Prod.map (v :: ·) id) := by
  have hraised : (readDone s n v).asm.raised = none := rfl
  have hvalue : (readDone s n v).asm.value = v := rfl
  simp only [runReads, h, hraised, hvalue, if_true]
  cases runReads is (readDone s n v) <;> rfl

/-- Primitives that fit the bytes at the cursor, field by field, return the fields' values, and
leave the cursor behind them all with the last value returned. -/
theorem runReads_fields {fs : List FieldRead} (hne : fs ≠ []) {rest : List Byte}
    (hfits : ∀ f ∈ fs, f.Fits) (h : s.asm.rd.rest = fs.flatMap FieldRead.bytes ++ rest) :
    runReads (fs.map FieldRead.op) s = some (fs.map FieldRead.value,
      readDone s (fs.flatMap FieldRead.bytes).length (fs.getLast hne).value) := by
  induction fs generalizing s with
  | nil => exact absurd rfl hne
  | cons f fs ih =>
    obtain ⟨hf, hfs⟩ := List.forall_mem_cons.mp hfits
    rw [List.flatMap_cons, List.append_assoc] at h
    rw [List.map_cons, runReads_cons _ (exec_fieldRead hf h)]
    cases fs with
    | nil => simp [runReads]
    | cons g fs =>
      rw [ih (List.cons_ne_nil g fs) hfs (readDone_rest f.value h), readDone_readDone,
        List.flatMap_cons (x := f), List.length_append, List.getLast_cons_cons]
      rfl

end

/-! ### The fields -/

theorem byteOf_toNat {w : Nat} (v : BitVec w) (k : Nat) :
    (byteOf v k).toNat = v.toNat / 2 ^ (8 * k) % 256 := by
  rw [byteOf, BitVec.extractLsb'_toNat, Nat.shiftRight_eq_div_pow]

theorem leNat_bytesLe16 (v : BitVec 16) : leNat (bytesLe16 v) = v.toNat := by
  rw [bytesLe16, leNat_two, byteOf_toNat, byteOf_toNat]
  omega

theorem leNat_bytesLe32 (v : BitVec 32) : leNat (bytesLe32 v) = v.toNat := by
  rw [bytesLe32, leNat_four, byteOf_toNat, byteOf_toNat, byteOf_toNat, byteOf_toNat]
  omega

/-- The big-endian pair as a two's-complement number (R87, R156). -/
theorem beInt_byteOf (x : BitVec 16) : beInt [byteOf x 1, byteOf x 0] = x.toInt := by
  rw [beInt_two, byteOf_toNat, byteOf_toNat, BitVec.toInt_eq_toNat_cond]
  split <;> split <;> omega

/-- READ_U8 of a byte field (R152). -/
def FieldRead.u8 (b : Byte) : FieldRead := ⟨.readU8, [b], .num b.toNat⟩

/-- READ_U16LE of a u16 field (R153). -/
def FieldRead.u16le (v : BitVec 16) : FieldRead := ⟨.readU16le, bytesLe16 v, .num v.toNat⟩

/-- READ_U32LE of a u32 field (R154). -/
def FieldRead.u32le (v : BitVec 32) : FieldRead := ⟨.readU32le, bytesLe32 v, .num v.toNat⟩

/-- READ_S16BE of a drum sample (R156). -/
def FieldRead.s16be (x : BitVec 16) : FieldRead :=
  ⟨.readS16be, [byteOf x 1, byteOf x 0], .num x.toInt⟩

/-- READ_WAVEFORM of a wave entry (R158). -/
def FieldRead.waveform (b : Vector Byte 256) : FieldRead :=
  ⟨.readWaveform, b.toList, .block b.toList⟩

@[simp] theorem FieldRead.u8_fits (b : Byte) : (u8 b).Fits := ⟨rfl, by simp [u8], rfl⟩

@[simp] theorem FieldRead.u16le_fits (v : BitVec 16) : (u16le v).Fits :=
  ⟨rfl, by simp [u16le, bytesLe16], congrArg (fun n : Nat => ReadValue.num n) (leNat_bytesLe16 v)⟩

@[simp] theorem FieldRead.u32le_fits (v : BitVec 32) : (u32le v).Fits :=
  ⟨rfl, by simp [u32le, bytesLe32], congrArg (fun n : Nat => ReadValue.num n) (leNat_bytesLe32 v)⟩

@[simp] theorem FieldRead.s16be_fits (x : BitVec 16) : (s16be x).Fits :=
  ⟨rfl, by simp [s16be], congrArg ReadValue.num (beInt_byteOf x)⟩

@[simp] theorem FieldRead.waveform_fits (b : Vector Byte 256) : (waveform b).Fits := by
  have hlen : b.toList.length = 256 := b.length_toList
  exact ⟨congrArg some hlen.symm, List.ne_nil_of_length_pos (hlen ▸ Nat.succ_pos 255), rfl⟩

/-! ### The fields of each record -/

/-- The reads of R171: the six magic bytes, then the registers. -/
def songHeaderFields (h : SongHeaderRec) : List FieldRead :=
  [5, 4, 3, 2, 1, 0].map (fun k => .u8 (byteOf h.magic k)) ++
    [.u8 h.waitMs, .u8 h.timeSig0, .u8 h.timeSig1, .u32le h.startBeat, .u32le h.endBeat]

/-- The reads of R176. -/
def instrumentHeaderFields (h : InstrumentRec) : List FieldRead :=
  [.u16le h.voiceId, .u8 h.instrumentIndex, .u8 h.shortNoteByte, .u16le h.noteCount]

/-- The reads of R178. -/
def noteFields (r : NoteRec) : List FieldRead :=
  [.u32le r.beat, .u8 r.pitch, .u8 r.length, .u8 r.volume, .u8 r.pan]

theorem songHeaderFields_bytes (h : SongHeaderRec) :
    (songHeaderFields h).flatMap FieldRead.bytes = encodeSongHeader h := rfl

theorem instrumentHeaderFields_bytes (h : InstrumentRec) :
    (instrumentHeaderFields h).flatMap FieldRead.bytes = encodeInstrumentHeader h := rfl

theorem noteFields_bytes (r : NoteRec) :
    (noteFields r).flatMap FieldRead.bytes = encodeNote r := rfl

theorem songHeaderFields_fit (h : SongHeaderRec) : ∀ f ∈ songHeaderFields h, f.Fits := by
  simp [songHeaderFields]

theorem instrumentHeaderFields_fit (h : InstrumentRec) :
    ∀ f ∈ instrumentHeaderFields h, f.Fits := by
  simp [instrumentHeaderFields]

theorem noteFields_fit (r : NoteRec) : ∀ f ∈ noteFields r, f.Fits := by
  simp [noteFields]

end Sys2Proof.Machine
end

section
/-! The obligation of 40_stream_reader, 41_song_parser and 42_waveform_bank on the records and the
reader primitives (R171, R176, R178, R220, R222). -/

namespace Sys2Proof.Claims

open Sys2Proof.Machine

/-- Settles O5: the bytes of a record are those of its fields in order, and each primitive reads
one field. -/
theorem recordsAreReadByThePrimitives : Obligations.RecordsAreReadByThePrimitives := by
  refine ⟨fun s h rest hdec => ?_, fun s h rest hdec => ?_, fun s r rest hdec => ?_,
    fun s b rest hdec => ?_, fun s x rest hdec => ?_⟩
  · have hbytes := decodeSongHeader_iff.mp hdec
    rw [← songHeaderFields_bytes] at hbytes
    exact runReads_fields (List.cons_ne_nil _ _) (songHeaderFields_fit h) hbytes
  · have hbytes := decodeInstrumentHeader_iff.mp hdec
    rw [← instrumentHeaderFields_bytes] at hbytes
    exact runReads_fields (List.cons_ne_nil _ _) (instrumentHeaderFields_fit h) hbytes
  · have hbytes := decodeNote_iff.mp hdec
    rw [← noteFields_bytes] at hbytes
    exact runReads_fields (List.cons_ne_nil _ _) (noteFields_fit r) hbytes
  · have hbytes : [FieldRead.waveform b].flatMap FieldRead.bytes = b.toList :=
      List.flatMap_singleton _ _
    have hreads := runReads_fields (fs := [.waveform b]) (List.cons_ne_nil _ _) (by simp)
      (hbytes ▸ decodeWaveEntry_iff.mp hdec)
    rw [hbytes, Vector.length_toList] at hreads
    exact hreads
  · exact runReads_fields (fs := [.s16be x]) (List.cons_ne_nil _ _) (by simp)
      (decodeDrumSample_iff.mp hdec)

end Sys2Proof.Claims
end
